-- ==== Sys2Proof/Word.lean ====
section
/-!
DEFINITION. The words of the NK612 that the manual treats as bits.
-/

namespace Sys2Proof

/-- One byte of a CAN frame (R47). -/
abbrev Byte := BitVec 8

/-- A value of the 32-bit millisecond time counter (00_scope, Time). -/
abbrev Ms := BitVec 32

/-- A value of the 24-bit capture counter at 1 MHz (00_scope, Time; R89). -/
abbrev Capture := BitVec 24

/-- A channel set: bit c for channel c, 0 to 5 (R47). -/
abbrev ChannelSet := BitVec 6

/-- A class set: bit 0 EMERGENCY, 1 SERVICE, 2 HOLD, 3 PARK, 4 TEST (R47). -/
abbrev ClassSet := BitVec 5

/-- A wheel end, 0 to 5: FL, FR, DL, DR, TL, TR (00_scope, Channels and axles). -/
abbrev Channel := Fin 6

/-- A roster address, 0 to 15 (R28). -/
abbrev Address := Fin 16

/-- A slot of the demand table; its number is the handle of the entry in it (R1). -/
abbrev Slot := Fin 32

end Sys2Proof
end

