-- ==== Sys2Proof/Syntax.lean ====
section
/-!
DEFINITION. The commands of the NK612: one constructor per row of spec/opcode_table.json, with the operands
the rules read.
-/

namespace Sys2Proof

/-- The two debounced cab lines (R51, R52). -/
inductive DebouncedLine where
  | doorOpen
  | parkSwitch
  deriving DecidableEq, Repr

/-- How a transmission of the block's own frame fails (R43, R44). -/
inductive TransmitFault where
  | arbitrationLost
  | busError
  | noAcknowledgement
  deriving DecidableEq, Repr

/-- Why a frame on the bus is ignored and not counted (R32). -/
inductive IgnoredReason where
  | otherIdentifier (ident : BitVec 11)
  | extendedIdentifier
  | remoteFrame
  | rejectedForBusError
  deriving DecidableEq, Repr

/-- The commands. Request constructors carry the sender's address and the bytes R47 names for the kind. -/
inductive Instr where
  /-- POST: class, scope, value, lifetime byte, options, gate (R37, R47). -/
  | post (sender : Address) (cls scope : Byte) (value : BitVec 16) (lifetime options gate : Byte)
  /-- REFRESH of a class (R13). -/
  | refresh (sender : Address) (cls : Byte)
  /-- RELEASE of a class (R14). -/
  | release (sender : Address) (cls : Byte)
  /-- EXCERPT: byte 1 (preset flag and kind), start handle, count (R190). -/
  | excerpt (sender : Address) (preset start count : Byte)
  /-- SET_PARAM: parameter id and value (R197). -/
  | setParam (sender : Address) (id : Byte) (value : BitVec 16)
  /-- SET_ROSTER: target address, state, permitted classes, permitted scope, configure (R30). -/
  | setRoster (sender : Address) (target state classes scope configure : Byte)
  /-- STORE (R199). -/
  | store (sender : Address)
  /-- CLEAR_TRIP (R163). -/
  | clearTrip (sender : Address)
  /-- EXERCISE: channel, mode, cycle count (R146). -/
  | exercise (sender : Address) (channel mode count : Byte)
  /-- EXERCISE_STOP (R148). -/
  | exerciseStop (sender : Address)
  /-- RESTART (R201). -/
  | restart (sender : Address)
  /-- A malformed frame from an address: its data length code and its first byte (R32, R33). -/
  | malformedFrame (sender : Address) (lengthCode : Fin 16) (kind : Byte)
  /-- A frame that is ignored and not counted (R32). -/
  | ignoredFrame (reason : IgnoredReason)
  /-- The deadline of the entry in a slot runs out (R17). -/
  | deadlineExpiry (slot : Slot)
  /-- The allocation period expires (R65). -/
  | allocationPeriod
  /-- The hold-override timer expires (R22). -/
  | holdOverride
  /-- The mute timer of an address runs out (R34). -/
  | muteExpiry (address : Address)
  /-- The arbiter puts a pending frame into transmission (R43). -/
  | transmitStart
  /-- The frame in transmission completes (R43). -/
  | transmitComplete
  /-- The frame in transmission fails (R43, R44). -/
  | transmitFailure (why : TransmitFault)
  /-- The recovery wait ends (R46). -/
  | recoveryWaitExpiry
  /-- Power-on (R25 and the cold-start rule of each block). -/
  | coldStart
  /-- The door-open line or the park switch changes to a level (R52). -/
  | debouncedLineChange (line : DebouncedLine) (active : Bool)
  /-- The debounce timer of a line expires (R52). -/
  | debounceExpiry (line : DebouncedLine)
  /-- The drive-request line changes to a level (R51). -/
  | driveRequestChange (active : Bool)
  /-- The ignition line changes to a level (R182). -/
  | ignitionChange (active : Bool)
  /-- The brake cut-out line changes to a level (R157). -/
  | brakeCutOutChange (active : Bool)
  /-- An edge of a channel's wheel-speed sensor (R90). -/
  | toothEdge (channel : Channel)
  /-- The tooth timer of a channel expires (R91). -/
  | toothTimeout (channel : Channel)
  /-- The suspect-set timer of a channel expires (R95). -/
  | suspectSetExpiry (channel : Channel)
  /-- The suspect-clear timer of a channel expires (R96). -/
  | suspectClearExpiry (channel : Channel)
  /-- The conversion in flight completes with a raw value (R117). -/
  | conversionComplete (raw : BitVec 12)
  /-- The 2 ms scan trigger expires (R120). -/
  | scanTriggerExpiry
  /-- The 1000 ms watch timer expires (R124). -/
  | watchTimerExpiry
  /-- The modulation timer expires (R136). -/
  | modulationPeriodStart
  /-- The formed pulse of a channel begins (R136). -/
  | modulatorPulseStart (channel : Channel)
  /-- The pulse of a channel reaches its end time (R137). -/
  | modulatorPulseEnd (channel : Channel)
  /-- A park coil pulse ends (R139, R141). -/
  | parkPulseEnd
  /-- A confirmation window of the park valve expires (R139, R141). -/
  | confirmationWindowExpiry
  /-- The retry timer of PARK_FAULT expires (R143). -/
  | retryTimerExpiry
  /-- The stall timer expires (R160). -/
  | stallTimerExpiry
  /-- The settle timer expires (R169). -/
  | settleTimerExpiry
  /-- The dwell timer expires (R173). -/
  | dwellExpiry
  /-- The quiet-window timer expires (R168, R177). -/
  | quietWindowExpiry
  /-- The withheld-release timer expires (R179). -/
  | withheldReleaseExpiry
  /-- The oldest spring-cycle entry reaches its age (R181). -/
  | springCycleEntryExpiry
  /-- The status period timer expires (R194). -/
  | statusPeriodExpiry
  /-- The store timer expires (R199). -/
  | storeComplete
  deriving DecidableEq, Repr

end Sys2Proof
end

