-- ==== Sys2Proof/WellFormed.lean ====
section
/-!
DEFINITION. Which command terms spell an event of the hardware: a frame of one of the eleven request kinds with
data length 8 is well formed (R32), so no MALFORMED_FRAME spells it, and a frame on a request identifier is not
ignored for its identifier (R32).
-/

namespace Sys2Proof

/-- A first byte that is one of the eleven request kinds of R47; EXERCISE_DONE (0x0C) is not. -/
def isRequestKind (kind : Byte) : Bool := 1 ≤ kind.toNat && kind.toNat ≤ 11

/-- A standard identifier of a request, 0x240 to 0x24F (R32). -/
def isRequestIdent (ident : BitVec 11) : Bool := 0x240 ≤ ident.toNat && ident.toNat ≤ 0x24F

/-- The terms that spell an event. Every other constructor's operands range over exactly what the event admits. -/
def Instr.wf : Instr → Bool
  | .malformedFrame _ lengthCode kind => lengthCode != 8 || !isRequestKind kind
  | .ignoredFrame (.otherIdentifier ident) => !isRequestIdent ident
  | .ignoredFrame .extendedIdentifier => true
  | .ignoredFrame .remoteFrame => true
  | .ignoredFrame .rejectedForBusError => true
  | .post _ _ _ _ _ _ _ => true
  | .refresh _ _ => true
  | .release _ _ => true
  | .excerpt _ _ _ _ => true
  | .setParam _ _ _ => true
  | .setRoster _ _ _ _ _ _ => true
  | .store _ => true
  | .clearTrip _ => true
  | .exercise _ _ _ _ => true
  | .exerciseStop _ => true
  | .restart _ => true
  | .deadlineExpiry _ => true
  | .allocationPeriod => true
  | .holdOverride => true
  | .muteExpiry _ => true
  | .transmitStart => true
  | .transmitComplete => true
  | .transmitFailure _ => true
  | .recoveryWaitExpiry => true
  | .coldStart => true
  | .debouncedLineChange _ _ => true
  | .debounceExpiry _ => true
  | .driveRequestChange _ => true
  | .ignitionChange _ => true
  | .brakeCutOutChange _ => true
  | .toothEdge _ => true
  | .toothTimeout _ => true
  | .suspectSetExpiry _ => true
  | .suspectClearExpiry _ => true
  | .conversionComplete _ => true
  | .scanTriggerExpiry => true
  | .watchTimerExpiry => true
  | .modulationPeriodStart => true
  | .modulatorPulseStart _ => true
  | .modulatorPulseEnd _ => true
  | .parkPulseEnd => true
  | .confirmationWindowExpiry => true
  | .retryTimerExpiry => true
  | .stallTimerExpiry => true
  | .settleTimerExpiry => true
  | .dwellExpiry => true
  | .quietWindowExpiry => true
  | .withheldReleaseExpiry => true
  | .springCycleEntryExpiry => true
  | .statusPeriodExpiry => true
  | .storeComplete => true

end Sys2Proof
end

