-- ==== Sys2Proof/Decode.lean ====
section
/-!
DEFINITION. From bits to commands. The rows of spec/opcode_table.json give no bits, so decodeTableWord answers
none. The manual lays out request frames (R32, R47): decodeFrame reads a CAN frame into its command and
encodeFrame writes a frame command back into a frame.
-/

namespace Sys2Proof

/-- The command that a word spells by the table's bits. No row of the table gives bits, so there is none. -/
def decodeTableWord (_nbits _w : Nat) : Option Instr := none

/-- A frame as it stands on the CAN bus. `ident` is the standard identifier, or the low bits of an extended one.
Data bytes past the data length hold anything. -/
structure BusFrame where
  rejected   : Bool
  extended   : Bool
  remote     : Bool
  ident      : BitVec 11
  lengthCode : Fin 16
  b0 : Byte
  b1 : Byte
  b2 : Byte
  b3 : Byte
  b4 : Byte
  b5 : Byte
  b6 : Byte
  b7 : Byte
  deriving DecidableEq, Repr

/-- A 16-bit number sent low byte first (R47). -/
def wordOf (low high : Byte) : BitVec 16 := high ++ low

/-- The low byte of a 16-bit number. -/
def lowByte (w : BitVec 16) : Byte := w.extractLsb' 0 8

/-- The high byte of a 16-bit number. -/
def highByte (w : BitVec 16) : Byte := w.extractLsb' 8 8

/-- The sender of a request is the address in its identifier, 0x240 + a (R32). -/
def senderOf (ident : BitVec 11) : Address := (ident.extractLsb' 0 4).toFin

/-- The command of a well-formed request by its kind and bytes (R47). -/
def decodeRequest (a : Address) (f : BusFrame) : Instr :=
  match f.b0.toNat with
  | 1 => .post a f.b1 f.b2 (wordOf f.b3 f.b4) f.b5 f.b6 f.b7
  | 2 => .refresh a f.b1
  | 3 => .release a f.b1
  | 4 => .excerpt a f.b1 f.b2 f.b3
  | 5 => .setParam a f.b1 (wordOf f.b2 f.b3)
  | 6 => .setRoster a f.b1 f.b2 f.b3 f.b4 f.b5
  | 7 => .store a
  | 8 => .clearTrip a
  | 9 => .exercise a f.b1 f.b2 f.b3
  | 10 => .exerciseStop a
  | 11 => .restart a
  | _ => .malformedFrame a f.lengthCode f.b0

/-- The command of any frame on the bus (R32): ignored, malformed, or a request. -/
def decodeFrame (f : BusFrame) : Instr :=
  if f.rejected then .ignoredFrame .rejectedForBusError
  else if f.extended then .ignoredFrame .extendedIdentifier
  else if f.remote then .ignoredFrame .remoteFrame
  else if !isRequestIdent f.ident then .ignoredFrame (.otherIdentifier f.ident)
  else if f.lengthCode != 8 then .malformedFrame (senderOf f.ident) f.lengthCode f.b0
  else decodeRequest (senderOf f.ident) f

/-- The standard identifier of a request from an address (R32). -/
def requestIdent (a : Address) : BitVec 11 := BitVec.ofNat 11 (0x240 + a.val)

/-- A request frame with its unused bytes 0. -/
def requestFrame (a : Address) (b0 b1 b2 b3 b4 b5 b6 b7 : Byte) : BusFrame :=
  { rejected := false, extended := false, remote := false, ident := requestIdent a, lengthCode := 8,
    b0, b1, b2, b3, b4, b5, b6, b7 }

/-- A frame that spells a frame command; none for a command that no frame spells. -/
def encodeFrame : Instr → Option BusFrame
  | .post a cls scope value life opts gate =>
      some (requestFrame a 1 cls scope (lowByte value) (highByte value) life opts gate)
  | .refresh a cls => some (requestFrame a 2 cls 0 0 0 0 0 0)
  | .release a cls => some (requestFrame a 3 cls 0 0 0 0 0 0)
  | .excerpt a preset start count => some (requestFrame a 4 preset start count 0 0 0 0)
  | .setParam a id value => some (requestFrame a 5 id (lowByte value) (highByte value) 0 0 0 0)
  | .setRoster a target state classes scope conf => some (requestFrame a 6 target state classes scope conf 0 0)
  | .store a => some (requestFrame a 7 0 0 0 0 0 0 0)
  | .clearTrip a => some (requestFrame a 8 0 0 0 0 0 0 0)
  | .exercise a channel mode count => some (requestFrame a 9 channel mode count 0 0 0 0)
  | .exerciseStop a => some (requestFrame a 10 0 0 0 0 0 0 0)
  | .restart a => some (requestFrame a 11 0 0 0 0 0 0 0)
  | .malformedFrame a code kind => some { requestFrame a kind 0 0 0 0 0 0 0 with lengthCode := code }
  | .ignoredFrame (.otherIdentifier ident) => some { requestFrame 0 0 0 0 0 0 0 0 0 with ident := ident }
  | .ignoredFrame .extendedIdentifier => some { requestFrame 0 0 0 0 0 0 0 0 0 with extended := true }
  | .ignoredFrame .remoteFrame => some { requestFrame 0 0 0 0 0 0 0 0 0 with remote := true }
  | .ignoredFrame .rejectedForBusError => some { requestFrame 0 0 0 0 0 0 0 0 0 with rejected := true }
  | .deadlineExpiry _ => none
  | .allocationPeriod => none
  | .holdOverride => none
  | .muteExpiry _ => none
  | .transmitStart => none
  | .transmitComplete => none
  | .transmitFailure _ => none
  | .recoveryWaitExpiry => none
  | .coldStart => none
  | .debouncedLineChange _ _ => none
  | .debounceExpiry _ => none
  | .driveRequestChange _ => none
  | .ignitionChange _ => none
  | .brakeCutOutChange _ => none
  | .toothEdge _ => none
  | .toothTimeout _ => none
  | .suspectSetExpiry _ => none
  | .suspectClearExpiry _ => none
  | .conversionComplete _ => none
  | .scanTriggerExpiry => none
  | .watchTimerExpiry => none
  | .modulationPeriodStart => none
  | .modulatorPulseStart _ => none
  | .modulatorPulseEnd _ => none
  | .parkPulseEnd => none
  | .confirmationWindowExpiry => none
  | .retryTimerExpiry => none
  | .stallTimerExpiry => none
  | .settleTimerExpiry => none
  | .dwellExpiry => none
  | .quietWindowExpiry => none
  | .withheldReleaseExpiry => none
  | .springCycleEntryExpiry => none
  | .statusPeriodExpiry => none
  | .storeComplete => none

end Sys2Proof
end

