-- ==== Sys2Proof/Config.lean ====
section
/-!
DEFINITION. The free values: what the manual leaves open, as constants with no body. Each is applied to the
draw counter of State, so that every draw is a fresh value about which nothing can be proved.
-/

namespace Sys2Proof

/-- What the time counter holds after a cold start; 00_scope: "Both counters may hold any value at cold start"
(log entry 2). -/
opaque Config.coldMs : Nat → Ms

/-- What the capture counter holds after a cold start (log entry 2). -/
opaque Config.coldCapture : Nat → Capture

/-- Which of several events that fall together is taken first when no command waits (log entry 3). -/
opaque Config.firstTaken : Nat → Nat

/-- The raw value a transducer gives to a conversion that completes while no command waits (log entry 4). -/
opaque Config.rawInput : Nat → BitVec 12

end Sys2Proof
end

