-- ==== Sys2Proof/Machine/Types.lean ====
section
/-!
DEFINITION. The plain data the blocks of the NK612 keep. Times in µs of model time (Nat) are expiry times of
timers (log entry 2); values of type Ms are time-counter values the manual itself names as such.
-/

namespace Sys2Proof.Machine

/-! ### Demand table (chapter 1) -/

/-- The class of a demand (R4). -/
inductive DemandClass where
  | emergency | service | hold | park | test
  deriving DecidableEq, Repr

/-- The stage of life of an entry (R6). -/
inductive EntryState where
  | active | retiring | lapsing | frozen
  deriving DecidableEq, Repr

/-- What the deadline does (R4). -/
inductive LapsePolicy where
  | rampOut | freeze
  deriving DecidableEq, Repr

/-- The owner of an entry: 0 to 15 bus sources, 16 PEDAL, 17 DOOR, 18 PARK SWITCH, 19 STANDSTILL (R4). -/
abbrev Source := Fin 20

/-- One entry of the demand table (R4); its handle is its slot. -/
structure Entry where
  source   : Source
  cls      : DemandClass
  scope    : ChannelSet
  value    : Option Nat
  lifetime : Option Nat
  deadline : Option Ms
  policy   : LapsePolicy
  gate     : Option Byte
  state    : EntryState
  blend    : Nat
  deriving DecidableEq, Repr

/-- The 32 slots (R1). -/
abbrev Table := Vector (Option Entry) 32

/-- The hold override (R21, R22). -/
structure HoldOverride where
  timer : Option Nat
  armed : Bool
  flag  : Bool
  deriving DecidableEq, Repr

/-! ### Roster and port (chapter 2) -/

/-- Whether an address may be heard (R28). -/
inductive RosterState where
  | absent | enrolled | muted
  deriving DecidableEq, Repr

/-- One roster record (R28). -/
structure RosterRecord where
  state     : RosterState
  classes   : ClassSet
  scope     : ChannelSet
  configure : Bool
  malformed : Nat
  muteTimer : Option Ms
  deriving DecidableEq, Repr

/-- A frame the block sends: identifier and 8 data bytes (R32). -/
structure Frame where
  ident : BitVec 11
  b0 : Byte
  b1 : Byte
  b2 : Byte
  b3 : Byte
  b4 : Byte
  b5 : Byte
  b6 : Byte
  b7 : Byte
  deriving DecidableEq, Repr

/-- An answer waiting in the answer queue; `restart` marks the answer a pending restart waits for (R201). -/
structure QueuedAnswer where
  frame   : Frame
  restart : Bool
  deriving DecidableEq, Repr

/-- The place of one status identifier: the frame pending or in transmission, and the one waiting behind it (R43). -/
structure StatusPlace where
  current : Option Frame
  behind  : Option Frame
  deriving DecidableEq, Repr

/-- The holder a frame in transmission came from (R43). -/
inductive Holder where
  | answer
  | status (k : Fin 3)
  | excerpt
  deriving DecidableEq, Repr

/-- The frame in transmission. `held` says that its holder still holds it; wake discards the holders' frames while
the frame on the bus goes on (log entry 7). -/
structure Transmission where
  holder  : Holder
  frame   : Frame
  restart : Bool
  held    : Bool
  deriving DecidableEq, Repr

/-- The CAN port (R42 to R46). -/
structure Port where
  online         : Bool
  errorCount     : Nat
  recovery       : Option Nat
  answers        : List QueuedAnswer
  status         : Vector StatusPlace 3
  excerpts       : List Frame
  tx             : Option Transmission
  answersDropped : Nat
  deriving DecidableEq, Repr

/-! ### Cab lines and internal sources (chapter 3) -/

/-- The lines that are not debounced, as they stand (R51). -/
structure Lines where
  drive    : Bool
  ignition : Bool
  cutOut   : Bool
  deriving DecidableEq, Repr

/-- A debounced line: raw level, debounced state (true: OPEN or ON), debounce timer (R51, R52). -/
structure Debounced where
  raw   : Bool
  state : Bool
  timer : Option Nat
  deriving DecidableEq, Repr

/-- The pedal pair record (R55). -/
structure PedalRecord where
  travel      : Option Nat
  disagreeRun : Nat
  agreeRun    : Nat
  disagree    : Bool
  single      : Bool
  lost        : Bool
  deriving DecidableEq, Repr

/-! ### Allocation (chapter 4) -/

/-- The allocation unit (R64, R66). -/
structure Allocation where
  timer         : Nat
  target        : Vector Nat 6
  supplyLimited : Vector Bool 6
  deriving DecidableEq, Repr

/-! ### Wheel speed and slip control (chapter 5) -/

/-- The wheel-speed record of a channel (R89). -/
structure Wheel where
  lastCapture : Option Capture
  interval    : Option Nat
  toothTimer  : Option Capture
  speed       : Nat
  suspect     : Bool
  setTimer    : Option Nat
  clearTimer  : Option Nat
  deriving DecidableEq, Repr

/-- The slip phases (R100). -/
inductive SlipPhase where
  | follow | dump | hold | reapply
  deriving DecidableEq, Repr

/-- Phase and counts: one for each of channels 0 to 3, and one shared by the tag pair (R100, R107). -/
structure SlipGroup where
  phase : SlipPhase
  dump  : Nat
  hold  : Nat
  deriving DecidableEq, Repr

/-- Slip control (R100, R107, R108). Groups 0 to 3 are the channels 0 to 3, group 4 is the tag pair. -/
structure Slip where
  group    : Vector SlipGroup 5
  reapply  : Vector Nat 6
  fault    : Vector Bool 6
  tlJoined : Bool
  trJoined : Bool
  deriving DecidableEq, Repr

/-! ### Sampling unit (chapter 6) -/

/-- A scan-list point record (R114, R116). -/
structure PointRecord where
  input : Fin 12
  low   : Nat
  high  : Nat
  watch : Bool
  deriving DecidableEq, Repr

/-- Where a valid value stands against its window (R116). -/
inductive WindowStatus where
  | inside | below | above
  deriving DecidableEq, Repr

/-- The result of a conversion: no value means INVALID; the window status where one is formed (R117, R122). -/
structure ConvResult where
  value  : Option Nat
  window : Option WindowStatus
  deriving DecidableEq, Repr

/-- The items kept for an input (R118). `allValid` is the current-scan validity. -/
structure InputItems where
  standing      : Option ConvResult
  standingValid : Option Nat
  current       : Option ConvResult
  currentValid  : Option Nat
  allValid      : Option Bool
  deriving DecidableEq, Repr

/-- The conversion in flight: the record converted and the time its conversion ends (R117). -/
structure ScanPosition where
  record : Fin 16
  stop   : Nat
  deriving DecidableEq, Repr

/-- The sampling unit (R114 to R126). `scan` is none in IDLE. -/
structure Sampling where
  records    : Vector PointRecord 16
  length     : Nat
  selector   : Fin 16
  inputs     : Vector InputItems 12
  watchMode  : Bool
  scan       : Option ScanPosition
  trigger    : Option Nat
  watchTimer : Option Nat
  overrun    : Nat
  deriving DecidableEq, Repr

/-! ### Valve drive (chapter 7) -/

/-- The direction of a command (R83, R136). -/
inductive Direction where
  | apply | release | hold
  deriving DecidableEq, Repr

/-- A valve command: a direction and a duty of 0 to 100 % (R136). -/
structure Command where
  dir  : Direction
  duty : Nat
  deriving DecidableEq, Repr

/-- A modulator valve of a channel (R132). -/
inductive Valve where
  | inlet | exhaust
  deriving DecidableEq, Repr

/-- A formed pulse: its valve, start and end (R136). -/
structure Pulse where
  valve : Valve
  start : Nat
  stop  : Nat
  deriving DecidableEq, Repr

/-- The last energised valve and its end time (R137). -/
structure LastPulse where
  valve : Valve
  stop  : Nat
  deriving DecidableEq, Repr

/-- The valve-drive record of a channel (R136, R137). A valve is energised while its pulse is `running`. -/
structure ChannelDrive where
  buffer  : Command
  active  : Command
  last    : Option LastPulse
  waiting : Option Pulse
  running : Option Pulse
  deriving DecidableEq, Repr

/-- The modulation part of the valve drive (R135 to R137). -/
structure ValveDrive where
  timer : Nat
  chan  : Vector ChannelDrive 6
  deriving DecidableEq, Repr

/-- The states of the park valve state machine (R138). -/
inductive ParkState where
  | applied | applying | releasing | released | parkFault
  deriving DecidableEq, Repr

/-- The step of an attempt (R138). -/
inductive ParkStep where
  | pulse | confirm
  deriving DecidableEq, Repr

/-- The park valve record (R138). -/
structure Park where
  state        : ParkState
  step         : Option ParkStep
  pulseTimer   : Option Nat
  confirmTimer : Option Nat
  pulses       : Nat
  wanted       : Bool
  applyPending : Bool
  retryTimer   : Option Nat
  fault        : Bool
  withheld     : Bool
  deriving DecidableEq, Repr

/-- How long an exercise runs (R146). -/
inductive ExerciseMode where
  | count (n : Nat)
  | freeRun
  deriving DecidableEq, Repr

/-- The exercise engine (R146). `owning` is the channel whose valves it owns (log entry 14); `next` is the valve of
the next direction. -/
structure Exercise where
  running : Bool
  owner   : Option Address
  channel : Option Channel
  mode    : Option ExerciseMode
  owning  : Option Channel
  next    : Valve
  cycles  : Nat
  wrapped : Bool
  deriving DecidableEq, Repr

/-- Why an exercise ended (R48, R148). -/
inductive EndReason where
  | countComplete | stopRequest | vehicleMoving | leftAutoPark | tripped | circuitFallback
  deriving DecidableEq, Repr

/-! ### Circuits and trip unit (chapter 8) -/

/-- Who governs a circuit (R150). -/
inductive Mode where
  | electronic | fallback | resting
  deriving DecidableEq, Repr

/-- What stands against electronic control (R150). -/
structure Causes where
  starting        : Bool
  trip            : Bool
  pressureInvalid : Bool
  supplyInvalid   : Bool
  pedalLost       : Bool
  deriving DecidableEq, Repr

/-- The record of a circuit (R150). -/
structure Circuit where
  mode        : Mode
  causes      : Causes
  pressureRun : Nat
  supplyRun   : Nat
  deriving DecidableEq, Repr

/-- A circuit: 0 front (channels 0, 1), 1 rear (channels 2 to 5) (R150). -/
abbrev CircuitId := Fin 2

/-- A set of trip sources (R156). -/
structure TripSet where
  cutLine      : Bool
  undervolt    : Bool
  overpressure : Bool
  scanStall    : Bool
  deriving DecidableEq, Repr

/-- The trip unit (R156). Its enables are parameters 41 to 43. -/
structure TripUnit where
  tripped      : Bool
  latched      : TripSet
  active       : TripSet
  undervoltRun : Nat
  overpressure : Vector Nat 6
  stallTimer   : Option Nat
  deriving DecidableEq, Repr

/-! ### Standstill coordinator (chapter 9) -/

/-- The standstill states (R166). -/
inductive Standstill where
  | run | stopHold | autoPark | creepHold | securing | secured
  deriving DecidableEq, Repr

/-- The coordinator's record (R166). -/
structure Coordinator where
  state              : Standstill
  settleTimer        : Option Nat
  settled            : Bool
  dwellTimer         : Option Nat
  quietTimer         : Option Nat
  armed              : Bool
  edges              : Vector Nat 6
  ignitionOffPending : Bool
  watchOpen          : Bool
  withheldTimer      : Option Nat
  springCycles       : List Ms
  promotionRefused   : Nat
  airLow             : Bool
  rollingSecured     : Bool
  rolling            : Vector (List Nat) 6
  deriving DecidableEq, Repr

/-! ### Excerpts, status, settings (chapter 10) -/

/-- What an excerpt request names (R190). -/
inductive ExcerptKind where
  | range (start count : Nat)
  | channels
  | roster
  deriving DecidableEq, Repr

/-- A request taken by the excerpt engine, with its requester's address (R190). -/
structure ExcerptRequest where
  requester : Address
  kind      : ExcerptKind
  deriving DecidableEq, Repr

/-- The copy of a channel in a CHANNELS snapshot (R191). -/
structure ChannelCopy where
  target        : Nat
  measured      : Nat
  phase         : SlipPhase
  suspect       : Bool
  slipFault     : Bool
  supplyLimited : Bool
  invalid       : Bool
  owned         : Bool
  deriving DecidableEq, Repr

/-- One item of a snapshot (R191). -/
inductive SnapshotItem where
  | slot (handle : Slot) (entry : Option Entry)
  | channel (c : Channel) (copy : ChannelCopy)
  | roster (a : Address) (record : RosterRecord)
  deriving DecidableEq, Repr

/-- The emission in flight: its request, snapshot and how many of its frames are placed (R191). -/
structure Emission where
  request  : ExcerptRequest
  snapshot : List SnapshotItem
  placed   : Nat
  deriving DecidableEq, Repr

/-- The excerpt engine: IDLE when `emission` is none (R191). -/
structure ExcerptEngine where
  emission : Option Emission
  waiting  : List ExcerptRequest
  deriving DecidableEq, Repr

/-- The status broadcaster (R194). -/
structure StatusUnit where
  timer    : Nat
  lastPage : Fin 2
  deriving DecidableEq, Repr

/-- The values of parameter ids 1 to 43; index id - 1 (R196). -/
abbrev Params := Vector Nat 43

/-- A roster record as the image holds it (R198). -/
structure StoredRecord where
  enrolled  : Bool
  classes   : ClassSet
  scope     : ChannelSet
  configure : Bool
  deriving DecidableEq, Repr

/-- The non-volatile image (R198). `valid` says that the checksum agrees with the contents. -/
structure Image where
  params  : Params
  length  : Nat
  records : Vector PointRecord 16
  roster  : Vector StoredRecord 16
  valid   : Bool
  deriving DecidableEq, Repr

/-- A STORE in progress (R199). -/
structure StoreJob where
  sender : Address
  stop   : Nat
  deriving DecidableEq, Repr

/-- The settings store (R196 to R201). -/
structure Settings where
  params          : Params
  image           : Image
  configDefaulted : Bool
  store           : Option StoreJob
  restartPending  : Bool
  deriving DecidableEq, Repr

/-! ### Requests and answers -/

/-- The outcome of a request; `code` in Frames.lean gives the byte of R48 (R39). -/
inductive AnswerCode where
  | accepted | acceptedClamped | notEnrolled | classNotPermitted | scopeNotPermitted | badField | tableFull
  | roomLow | unknownEntry | lapsed | wrongState | busy | tripCausePresent | vehicleSecured
  deriving DecidableEq, Repr

/-- The kinds of frames, coded as R47 gives. -/
inductive Kind where
  | post | refresh | release | excerpt | setParam | setRoster | store | clearTrip | exercise | exerciseStop | restart
  | exerciseDone
  deriving DecidableEq, Repr

/-- The fields of a post as the table takes them, with the class rules of R4, R5 and the clamps of R38 applied. -/
structure PostFields where
  cls      : DemandClass
  scope    : ChannelSet
  value    : Option Nat
  lifetime : Option Nat
  policy   : LapsePolicy
  gate     : Option Byte
  deriving DecidableEq, Repr

/-- What the table gives back to a demand request: the table after it, the outcome, and the handle (R15). -/
structure TableReply where
  table  : Table
  code   : AnswerCode
  handle : Option Slot
  deriving DecidableEq, Repr

/-- The command source slip control gives the allocation unit for a channel (R81). -/
inductive CommandSource where
  | normal
  | reapply
  | forced (c : Command)
  deriving DecidableEq, Repr

/-! ### Time base -/

/-- The counters (00_scope, Time) and the model's own elapsed time in µs (log entry 2). -/
structure Clock where
  us      : Nat
  ms      : Ms
  capture : Capture
  deriving DecidableEq, Repr

end Sys2Proof.Machine
end

