-- ==== Sys2Proof/Machine/Factory.lean ====
section
/-!
DEFINITION. The factory settings: parameters (R196), scan list (R115), roster (R29), and the shipped image (R198).
-/

namespace Sys2Proof.Machine

/-- The factory values of ids 1 to 43, in id order (R196). -/
def factoryParams : Params :=
  #v[105, 120, 80, 35, 40, 40, 650, 750, 600, 12, 15, 8, 15, 2, 3200, 3200, 3200, 80, 80, 80, 18, 10, 4, 16, 3, 40,
     4, 250, 300, 80, 400, 50, 300, 45, 5, 600, 6, 620, 10, 1, 1, 1, 1]

/-- A channel-pressure record as shipped: stored edges 0 and 1000, watch off (R115). -/
def pressurePoint (input : Fin 12) : PointRecord := { input, low := 0, high := 1000, watch := false }

/-- The factory scan list (R115). -/
def factoryRecords : Vector PointRecord 16 :=
  #v[pressurePoint 0, pressurePoint 1, pressurePoint 2, pressurePoint 3, pressurePoint 4, pressurePoint 5,
     { input := 6, low := 400, high := 1000, watch := true },
     { input := 7, low := 400, high := 1000, watch := true },
     { input := 8, low := 0, high := 50, watch := true },
     { input := 9, low := 0, high := 1000, watch := false },
     { input := 10, low := 0, high := 1000, watch := false },
     { input := 11, low := 160, high := 320, watch := true },
     pressurePoint 0, pressurePoint 1, pressurePoint 2, pressurePoint 3]

/-- The factory scan length (R115). -/
def factoryLength : Nat := 12

/-- The factory roster: address 15 ENROLLED with TEST and configure over all six channels, the others ABSENT (R29). -/
def factoryRoster : Vector StoredRecord 16 :=
  Vector.ofFn fun a =>
    if a = 15 then { enrolled := true, classes := 0b10000#5, scope := 0b111111#6, configure := true }
    else { enrolled := false, classes := 0#5, scope := 0#6, configure := false }

/-- The shipped image, with a valid checksum (R198). -/
def factoryImage : Image :=
  { params := factoryParams, length := factoryLength, records := factoryRecords, roster := factoryRoster, valid := true }

/-- A loaded roster record: ENROLLED or ABSENT as stored, malformed count 0, no mute timer (R29). -/
def loadRecord (r : StoredRecord) : RosterRecord :=
  { state := if r.enrolled then .enrolled else .absent, classes := r.classes, scope := r.scope,
    configure := r.configure, malformed := 0, muteTimer := none }

/-- The roster loaded from stored records (R29). -/
def loadRoster (v : Vector StoredRecord 16) : Vector RosterRecord 16 := Vector.ofFn fun a => loadRecord v[a]

end Sys2Proof.Machine
end

