-- ==== Sys2Proof/Machine/State.lean ====
section
/-!
DEFINITION. The whole state of the NK612 as plain data, the reasons a step can stop, and the state after reset.
-/

namespace Sys2Proof.Machine

/-- The state. Every field but `pending`, `draws` and `clock.us` is the manual's own. -/
structure State where
  /-- The commands that wait, first in, first out (the host's form for a block). -/
  pending        : List Instr
  /-- How many free values have been drawn (model's own, log entry 3). -/
  draws          : Nat
  /-- The time base (00_scope, Time). -/
  clock          : Clock
  /-- Drive-request, ignition and brake cut-out line (R51). -/
  lines          : Lines
  /-- The door-open line (R51, R52). -/
  door           : Debounced
  /-- The park switch (R51, R52). -/
  parkSwitch     : Debounced
  /-- DOOR_OPEN_MOVING (R62). -/
  doorOpenMoving : Bool
  /-- The pedal pair record (R55). -/
  pedal          : PedalRecord
  /-- The source roster (R28). -/
  roster         : Vector RosterRecord 16
  /-- The CAN port (R42 to R46). -/
  port           : Port
  /-- The demand table (R1). -/
  table          : Table
  /-- The hold override (R21, R22). -/
  override       : HoldOverride
  /-- The allocation unit (R64, R66). -/
  alloc          : Allocation
  /-- The wheel-speed records (R89). -/
  wheel          : Vector Wheel 6
  /-- The reference speed (R94). -/
  vref           : Nat
  /-- Slip control (R100, R107, R108). -/
  slip           : Slip
  /-- The sampling unit (R114 to R126). -/
  sampling       : Sampling
  /-- Modulation (R135 to R137). -/
  valve          : ValveDrive
  /-- The park valve (R138). -/
  park           : Park
  /-- The exercise engine (R146). -/
  exercise       : Exercise
  /-- The circuits, front and rear (R150). -/
  circuit        : Vector Circuit 2
  /-- The pedal run shared by both circuits (R150). -/
  pedalRun       : Nat
  /-- The trip unit (R156). -/
  trip           : TripUnit
  /-- The standstill coordinator (R166). -/
  coord          : Coordinator
  /-- The excerpt engine (R191). -/
  excerpt        : ExcerptEngine
  /-- The status broadcaster (R194). -/
  status         : StatusUnit
  /-- The settings store (R196 to R201). -/
  settings       : Settings
  deriving DecidableEq, Repr

/-- Why a step stops with a fault. -/
inductive Fault where
  /-- Raised by a POST that creates an EMERGENCY entry when slots 5 to 8 are all occupied. R3 says that such a POST
  always finds a vacant slot, so no run of the hardware comes here; safe (log entry 10). -/
  | emergencyPartitionFull
  deriving DecidableEq, Repr

/-- Why a command is refused by the model. -/
inductive Refusal where
  /-- An arm of exec that has no meaning yet; none is left; safe. -/
  | notModelled (mnemonic : String)
  /-- Raised by a MALFORMED_FRAME or IGNORED_FRAME term that spells no such frame by R32; safe (log entry 18). -/
  | illFormed
  deriving DecidableEq, Repr

/-- The table right after a cold start with the door closed and the park switch off: the PEDAL entry in slot 0 and
the STANDSTILL PARK entry in slot 4 (R25, R189). -/
def State.resetTable : Table :=
  ((Vector.replicate 32 none).set 0 (some
    { source := 16, cls := .service, scope := 0b111111#6, value := some 0, lifetime := none, deadline := none,
      policy := .rampOut, gate := none, state := .active, blend := 0 })).set 4 (some
    { source := 19, cls := .park, scope := 0b001100#6, value := none, lifetime := none, deadline := none,
      policy := .freeze, gate := none, state := .active, blend := 64 })

/-- The machine right after reset: a cold start of the module as shipped, at model time 0, with the ignition on, the
door closed, the park switch off, and no drive request or cut-out (log entries 2 and 5). -/
def State.reset : State :=
  { pending := []
    draws := 0
    clock := { us := 0, ms := 0, capture := 0 }
    lines := { drive := false, ignition := true, cutOut := false }
    door := { raw := false, state := false, timer := none }
    parkSwitch := { raw := false, state := false, timer := none }
    doorOpenMoving := false
    pedal := { travel := none, disagreeRun := 0, agreeRun := 0, disagree := false, single := false, lost := false }
    roster := loadRoster factoryRoster
    port := { online := true, errorCount := 0, recovery := none, answers := [],
              status := Vector.replicate 3 { current := none, behind := none }, excerpts := [], tx := none,
              answersDropped := 0 }
    table := State.resetTable
    override := { timer := none, armed := true, flag := false }
    alloc := { timer := 10000, target := Vector.replicate 6 0, supplyLimited := Vector.replicate 6 false }
    wheel := Vector.replicate 6 { lastCapture := none, interval := none, toothTimer := none, speed := 0,
                                  suspect := false, setTimer := none, clearTimer := none }
    vref := 0
    slip := { group := Vector.replicate 5 { phase := .follow, dump := 0, hold := 0 },
              reapply := Vector.replicate 6 0, fault := Vector.replicate 6 false, tlJoined := true, trJoined := true }
    sampling := { records := factoryRecords, length := factoryLength, selector := 0,
                  inputs := Vector.replicate 12 { standing := none, standingValid := none, current := none,
                                                  currentValid := none, allValid := none },
                  watchMode := false, scan := some { record := 0, stop := 125 }, trigger := some 2000,
                  watchTimer := none, overrun := 0 }
    valve := { timer := 16000,
               chan := Vector.replicate 6 { buffer := { dir := .hold, duty := 0 }, active := { dir := .hold, duty := 0 },
                                            last := none, waiting := none, running := none } }
    park := { state := .applying, step := some .pulse, pulseTimer := some 150000, confirmTimer := none, pulses := 1,
              wanted := true, applyPending := false, retryTimer := none, fault := false, withheld := false }
    exercise := { running := false, owner := none, channel := none, mode := none, owning := none, next := .inlet,
                  cycles := 0, wrapped := false }
    circuit := Vector.replicate 2
      { mode := .fallback,
        causes := { starting := true, trip := false, pressureInvalid := false, supplyInvalid := false,
                    pedalLost := false },
        pressureRun := 0, supplyRun := 0 }
    pedalRun := 0
    trip := { tripped := false,
              latched := { cutLine := false, undervolt := false, overpressure := false, scanStall := false },
              active := { cutLine := false, undervolt := false, overpressure := false, scanStall := false },
              undervoltRun := 0, overpressure := Vector.replicate 6 0, stallTimer := some 6000 }
    coord := { state := .autoPark, settleTimer := none, settled := false, dwellTimer := none,
               quietTimer := some 5000000, armed := true, edges := Vector.replicate 6 0, ignitionOffPending := false,
               watchOpen := false, withheldTimer := none, springCycles := [], promotionRefused := 0, airLow := false,
               rollingSecured := false, rolling := Vector.replicate 6 [] }
    excerpt := { emission := none, waiting := [] }
    status := { timer := 100000, lastPage := 1 }
    settings := { params := factoryParams, image := factoryImage, configDefaulted := false, store := none,
                  restartPending := false } }

end Sys2Proof.Machine
end

