-- ==== Sys2Proof/Machine/Ops.lean ====
section
/-!
DEFINITION. Shared operations: updates of vectors, timers, and every operation of the demand table (chapter 1).
-/

namespace Sys2Proof.Machine

/-- What a command answers. -/
abbrev Result := Host.Outcome State Fault Refusal

/-! ### Vectors -/

/-- Replace the item at an index. -/
def put {α : Type} {n : Nat} (v : Vector α n) (i : Fin n) (x : α) : Vector α n := v.set i.val x i.isLt

/-- Change the item at an index. -/
def alter {α : Type} {n : Nat} (v : Vector α n) (i : Fin n) (f : α → α) : Vector α n := put v i (f v[i])

/-- Change every item, each by its index. -/
def mapAll {α β : Type} {n : Nat} (v : Vector α n) (f : Fin n → α → β) : Vector β n := Vector.ofFn fun i => f i v[i]

/-! ### Time (00_scope, Time) -/

/-- A number of milliseconds in µs. -/
def msec (n : Nat) : Nat := n * 1000

/-- A number of seconds in µs. -/
def sec (n : Nat) : Nat := n * 1000000

/-- The timer is running and its expiry time has come. -/
def due (timer : Option Nat) (now : Nat) : Bool :=
  match timer with
  | some t => t ≤ now
  | none => false

/-- The time counter has reached a value, compared modulo 2^32 (00_scope, Time; R17). -/
def reached (now target : Ms) : Bool := (now - target).toNat < 2147483648

/-- The time counter value a number of ms after another, modulo 2^32 (R10). -/
def msAfter (now : Ms) (ms : Nat) : Ms := now + BitVec.ofNat 32 ms

/-! ### Slots and keys (R1 to R3) -/

/-- The EMERGENCY partition, slots 5 to 8 (R1). -/
def emergencySlots : List Slot := [5, 6, 7, 8]

/-- The general partition, slots 9 to 31 (R1). -/
def generalSlots : List Slot := (List.finRange 32).filter fun i => 9 ≤ i.val

/-- The entry stands under a key (R2). -/
def Entry.hasKey (e : Entry) (src : Source) (cls : DemandClass) : Bool := e.source = src && e.cls = cls

/-- The slot and entry standing under a key (R2). -/
def findEntry (t : Table) (src : Source) (cls : DemandClass) : Option (Slot × Entry) :=
  (List.finRange 32).findSome? fun i =>
    match t[i] with
    | some e => if e.hasKey src cls then some (i, e) else none
    | none => none

/-- The lowest-numbered vacant slot of a partition listed in rising order (R3). -/
def firstVacant (t : Table) (slots : List Slot) : Option Slot := slots.find? fun i => t[i].isNone

/-- Free general slots (R8). -/
def freeGeneral (t : Table) : Nat := (generalSlots.filter fun i => t[i].isNone).length

/-- Free EMERGENCY slots (R8). -/
def freeEmergency (t : Table) : Nat := (emergencySlots.filter fun i => t[i].isNone).length

/-- The table holds a PARK entry (R19). -/
def anyPark (t : Table) : Bool :=
  (List.finRange 32).any fun i =>
    match t[i] with
    | some e => e.cls = .park
    | none => false

/-- The source of a bus address. -/
def busSource (a : Address) : Source := a.castLE (by decide)

/-! ### Entries (R4 to R12) -/

/-- The ramp-in step of a class in sixty-fourths per period; a PARK entry has none (R5). -/
def rampIn : DemandClass → Nat
  | .emergency => 64
  | .service => 64
  | .hold => 8
  | .park => 0
  | .test => 4

/-- The ramp-out step of a class (R5). -/
def rampOut : DemandClass → Nat
  | .emergency => 4
  | .service => 16
  | .hold => 8
  | .park => 0
  | .test => 4

/-- The deadline of an entry posted now (R10). -/
def deadlineFrom (now : Ms) (lifetime : Option Nat) : Option Ms := lifetime.map (msAfter now)

/-- An entry created by a post (R10). -/
def newEntry (src : Source) (f : PostFields) (now : Ms) : Entry :=
  { source := src, cls := f.cls, scope := f.scope, value := f.value, lifetime := f.lifetime,
    deadline := deadlineFrom now f.lifetime, policy := f.policy, gate := f.gate, state := .active,
    blend := if f.cls = .park then 64 else 0 }

/-- An entry updated or revived by a post of its key: fields replaced, deadline restarted, ACTIVE, blend kept
(R11, R12). -/
def Entry.renew (e : Entry) (f : PostFields) (now : Ms) : Entry :=
  { e with scope := f.scope, value := f.value, lifetime := f.lifetime, deadline := deadlineFrom now f.lifetime,
           policy := f.policy, gate := f.gate, state := .active }

/-- An entry withdrawn or released: a PARK entry is removed, any other becomes RETIRING without a deadline
(R14, R19, R20). -/
def Entry.retire (e : Entry) : Option Entry :=
  if e.cls = .park then none else some { e with state := .retiring, deadline := none }

/-! ### Demand requests (R9 to R15) -/

/-- A POST of a key that no entry has (R9). None: no vacant EMERGENCY slot, which R3 excludes (log entry 10). -/
def createEntry (t : Table) (now : Ms) (room : Nat) (src : Source) (f : PostFields) : Option TableReply :=
  match f.cls with
  | .emergency =>
      (firstVacant t emergencySlots).map fun i =>
        { table := put t i (some (newEntry src f now)), code := .accepted, handle := some i }
  | _ =>
      if f.cls = .test && freeGeneral t != 0 && freeGeneral t < room then
        some { table := t, code := .roomLow, handle := none }
      else
        match firstVacant t generalSlots with
        | some i => some { table := put t i (some (newEntry src f now)), code := .accepted, handle := some i }
        | none => some { table := t, code := .tableFull, handle := none }

/-- A POST at the table (R9 to R12). -/
def tablePost (t : Table) (now : Ms) (room : Nat) (src : Source) (f : PostFields) : Option TableReply :=
  match findEntry t src f.cls with
  | some (i, e) => some { table := put t i (some (e.renew f now)), code := .accepted, handle := some i }
  | none => createEntry t now room src f

/-- A REFRESH at the table (R13). -/
def tableRefresh (t : Table) (now : Ms) (src : Source) (cls : DemandClass) : TableReply :=
  match findEntry t src cls with
  | none => { table := t, code := .unknownEntry, handle := none }
  | some (i, e) =>
    match e.state with
    | .active =>
        match e.lifetime with
        | some l => { table := put t i (some { e with deadline := some (msAfter now l) }), code := .accepted,
                      handle := some i }
        | none => { table := t, code := .accepted, handle := some i }
    | .frozen => { table := put t i (some { e with state := .active, deadline := deadlineFrom now e.lifetime }),
                   code := .accepted, handle := some i }
    | .lapsing => { table := t, code := .lapsed, handle := some i }
    | .retiring => { table := t, code := .unknownEntry, handle := none }

/-- A RELEASE at the table (R14). -/
def tableRelease (t : Table) (src : Source) (cls : DemandClass) : TableReply :=
  match findEntry t src cls with
  | none => { table := t, code := .unknownEntry, handle := none }
  | some (i, e) =>
    match e.state with
    | .retiring => { table := t, code := .accepted, handle := some i }
    | _ => { table := put t i e.retire, code := .accepted, handle := some i }

/-- The remaining lifetime of an answer, in 10 ms units (R15). -/
def remainingLifetime (t : Table) (handle : Option Slot) (now : Ms) : Nat :=
  match handle with
  | none => 0
  | some i =>
    match t[i] with
    | none => 0
    | some e =>
      if e.state = .active then
        match e.deadline with
        | some d => min 255 ((d - now).toNat / 10)
        | none => 255
      else 0

/-! ### Posts by the internal sources (R16) -/

/-- A post into a home slot: created when vacant, else updated or revived in place (R16). -/
def homePost (t : Table) (i : Slot) (src : Source) (f : PostFields) (now : Ms) : Table :=
  put t i (some (match t[i] with
    | some e => e.renew f now
    | none => newEntry src f now))

/-- A release of a home slot; without effect on a vacant one (R16). -/
def homeRelease (t : Table) (i : Slot) : Table :=
  match t[i] with
  | none => t
  | some e => if e.state = .retiring then t else put t i e.retire

/-- A new value for the entry of a home slot, in place (R16, R59). -/
def homeValue (t : Table) (i : Slot) (v : Nat) : Table := alter t i (Option.map fun e => { e with value := some v })

/-- The entry of a slot stands in a state. -/
def slotIs (t : Table) (i : Slot) (st : EntryState) : Bool :=
  match t[i] with
  | some e => e.state = st
  | none => false

/-- The value of the entry of a slot, 0 when there is none. -/
def slotValue (t : Table) (i : Slot) : Nat := (t[i].bind Entry.value).getD 0

/-- Fields of the DOOR hold of slot 1 (R61). -/
def doorFields (doorHold holdMax : Nat) : PostFields :=
  { cls := .hold, scope := 0b111111#6, value := some (min doorHold holdMax), lifetime := none, policy := .rampOut,
    gate := some 30#8 }

/-- Fields of an internal PARK entry, slots 2 and 4 (R19, R63). -/
def parkFields : PostFields :=
  { cls := .park, scope := 0b001100#6, value := none, lifetime := none, policy := .freeze, gate := none }

/-- Fields of the STANDSTILL hold of slot 3 with a value (R170). -/
def holdFields (v : Nat) : PostFields :=
  { cls := .hold, scope := 0b111111#6, value := some v, lifetime := none, policy := .rampOut, gate := none }

/-- The PEDAL entry as created at cold start and at wake (R25, R26). -/
def pedalEntry : Entry :=
  { source := 16, cls := .service, scope := 0b111111#6, value := some 0, lifetime := none, deadline := none,
    policy := .rampOut, gate := none, state := .active, blend := 0 }

/-! ### Changes of the whole table -/

/-- Change every entry; none removes it. -/
def mapEntries (t : Table) (f : Entry → Option Entry) : Table := mapAll t fun _ e => e.bind f

/-- The blend advance of one entry (R18); none: it is removed. -/
def Entry.advance (e : Entry) : Option Entry :=
  if e.cls = .park then some e
  else
    match e.state with
    | .active => some { e with blend := min 64 (e.blend + rampIn e.cls) }
    | .frozen => some e
    | _ => if e.blend - rampOut e.cls = 0 then none else some { e with blend := e.blend - rampOut e.cls }

/-- The deadline of an entry is due (R17). -/
def Entry.lapseDue (e : Entry) (now : Ms) : Bool :=
  e.state = .active &&
    match e.deadline with
    | some d => reached now d
    | none => false

/-- The expiry of a deadline (R17). -/
def Entry.lapse (e : Entry) : Entry :=
  match e.policy with
  | .rampOut => { e with state := .lapsing, deadline := none }
  | .freeze => { e with state := .frozen, deadline := none }

/-- A class is among the permitted classes (R28, R47). -/
def permits (classes : ClassSet) : DemandClass → Bool
  | .emergency => classes.getLsbD 0
  | .service => classes.getLsbD 1
  | .hold => classes.getLsbD 2
  | .park => classes.getLsbD 3
  | .test => classes.getLsbD 4

/-- A channel set contains both drive channels, as PARK needs (R20, R37). -/
def coversDrive (scope : ChannelSet) : Bool := scope.getLsbD 2 && scope.getLsbD 3

/-- The application of a new roster record to one entry of its address (R20). -/
def Entry.underRecord (e : Entry) (classes : ClassSet) (scope : ChannelSet) : Option Entry :=
  if !permits classes e.cls then e.retire
  else if e.cls = .park then (if coversDrive scope then some e else none)
  else if e.scope &&& scope = 0#6 then some { e with state := .retiring, deadline := none }
  else some { e with scope := e.scope &&& scope }

/-- The application of a new roster record to the table (R20). -/
def applyRecord (t : Table) (a : Address) (classes : ClassSet) (scope : ChannelSet) : Table :=
  mapEntries t fun e => if e.source = busSource a then e.underRecord classes scope else some e

/-- The firing of the hold override on one entry (R22). -/
def Entry.overridden (e : Entry) : Entry :=
  if e.cls = .hold && e.state = .frozen then { e with state := .retiring, deadline := none } else e

/-- The lowering of hold_max on one entry (R23). -/
def Entry.capHold (e : Entry) (holdMax : Nat) : Entry :=
  if e.cls = .hold then { e with value := e.value.map (min holdMax) } else e

/-- The purge at SECURED (R24). -/
def purge (t : Table) : Table := mapEntries t fun e => if e.cls = .park then some e else none

end Sys2Proof.Machine
end

