-- ==== Sys2Proof/Machine/Operands.lean ====
section
/-!
DEFINITION. The operands of requests: class and scope bytes, the clamps of a POST (R38), the parameters by name and
by id with their ranges (R196), excerpt requests (R190), and the scan list (R114, R116).
-/

namespace Sys2Proof.Machine

/-! ### Demand requests -/

/-- The class a class byte names (R47); none for a byte outside 1 to 5. -/
def classOf (b : Byte) : Option DemandClass :=
  match b.toNat with
  | 1 => some .emergency
  | 2 => some .service
  | 3 => some .hold
  | 4 => some .park
  | 5 => some .test
  | _ => none

/-- The code of a class (R47). -/
def classCode : DemandClass → Nat
  | .emergency => 1
  | .service => 2
  | .hold => 3
  | .park => 4
  | .test => 5

/-- The scope byte masked to its low six bits (R37). -/
def scopeOf (b : Byte) : ChannelSet := b.extractLsb' 0 6

/-- The permitted-class byte, bits 5 to 7 discarded (R30). -/
def classSetOf (b : Byte) : ClassSet := b.extractLsb' 0 5

/-- A channel set lies within another. -/
def within (inner outer : ChannelSet) : Bool := inner &&& outer = inner

/-- The checks of R37 on a POST, in their order: the refusal, or the class and masked scope. -/
def checkPost (r : RosterRecord) (secured : Bool) (clsByte scopeByte : Byte) : Except AnswerCode (DemandClass × ChannelSet) :=
  match classOf clsByte with
  | none => .error .badField
  | some cls =>
    if !permits r.classes cls then .error .classNotPermitted
    else if secured && cls != .park then .error .vehicleSecured
    else if cls = .park then
      if coversDrive r.scope then .ok (cls, scopeOf scopeByte) else .error .scopeNotPermitted
    else if scopeOf scopeByte = 0#6 then .error .badField
    else if !within (scopeOf scopeByte) r.scope then .error .scopeNotPermitted
    else .ok (cls, scopeOf scopeByte)

/-- The lifetime a lifetime byte gives, and whether it was clamped (R38). -/
def lifetimeOf (cls : DemandClass) (b : Byte) : Option Nat × Bool :=
  if b.toNat = 0 then (if cls = .park then (none, false) else (some 5000, true))
  else if b.toNat < 5 then (some 100, true)
  else if 250 < b.toNat then (some 5000, true)
  else (some (b.toNat * 20), false)

/-- The value a class records for a value received, and whether it was clamped (R38). -/
def valueOf (cls : DemandClass) (v : BitVec 16) (holdMax : Nat) : Option Nat × Bool :=
  match cls with
  | .park => (none, false)
  | .hold => (some (min v.toNat holdMax), decide (holdMax < v.toNat))
  | _ => (some (min v.toNat 800), decide (800 < v.toNat))

/-- The lapse policy a class records for a FREEZE option (R5). -/
def policyOf (cls : DemandClass) (freeze : Bool) : LapsePolicy :=
  match cls with
  | .hold => if freeze then .freeze else .rampOut
  | .park => .freeze
  | _ => .rampOut

/-- The speed gate a class records (R4, R38). -/
def gateOf (cls : DemandClass) (present : Bool) (gate : Byte) : Option Byte :=
  match cls with
  | .service => if present then some gate else none
  | .hold => if present then some gate else none
  | _ => none

/-- The fields of a POST as they reach the table (R4, R5, R38). Option bit 0 is FREEZE, bit 1 gate present (R47). -/
def postFields (cls : DemandClass) (scope : ChannelSet) (value : BitVec 16) (lifetime options gate : Byte)
    (holdMax : Nat) : PostFields :=
  { cls := cls
    scope := if cls = .park then 0b001100#6 else scope
    value := (valueOf cls value holdMax).1
    lifetime := (lifetimeOf cls lifetime).1
    policy := policyOf cls (options.getLsbD 0)
    gate := gateOf cls (options.getLsbD 1) gate }

/-- A field of the POST was clamped, so that the answer is ACCEPTED_CLAMPED (R37, R38). -/
def postClamped (cls : DemandClass) (value : BitVec 16) (lifetime : Byte) (holdMax : Nat) : Bool :=
  (valueOf cls value holdMax).2 || (lifetimeOf cls lifetime).2

/-! ### Parameters (R196) -/

/-- The axle of a channel: 0 front, 1 drive, 2 tag (00_scope, Channels and axles). -/
def axleOf (c : Channel) : Fin 3 := ⟨c.val / 2, by omega⟩

/-- The circuit of a channel: 0 front for channels 0 and 1, else 1 rear (R150). -/
def circuitOf (c : Channel) : CircuitId := if c.val < 2 then 0 else 1

/-- Ids 1 to 3. -/
def Params.gain (p : Params) (axle : Fin 3) : Nat := p[axle.val]
/-- Ids 4 to 6. -/
def Params.pushOut (p : Params) (axle : Fin 3) : Nat := p[axle.val + 3]
/-- Ids 7 to 9. -/
def Params.pmax (p : Params) (axle : Fin 3) : Nat := p[axle.val + 6]
/-- Id 10. -/
def Params.slewUp (p : Params) : Nat := p[9]
/-- Id 11. -/
def Params.slewDown (p : Params) : Nat := p[10]
/-- Id 12. -/
def Params.deadBand (p : Params) : Nat := p[11]
/-- Id 13. -/
def Params.dutyFloor (p : Params) : Nat := p[12]
/-- Id 14. -/
def Params.dutyGain (p : Params) : Nat := p[13]
/-- Ids 15 to 17. -/
def Params.circumference (p : Params) (axle : Fin 3) : Nat := p[axle.val + 14]
/-- Ids 18 to 20. -/
def Params.teeth (p : Params) (axle : Fin 3) : Nat := p[axle.val + 17]
/-- Id 21. -/
def Params.slipOn (p : Params) : Nat := p[20]
/-- Id 22. -/
def Params.slipOff (p : Params) : Nat := p[21]
/-- Id 23. -/
def Params.reapplyStep (p : Params) : Nat := p[22]
/-- Id 24, in ms. -/
def Params.modulationPeriod (p : Params) : Nat := p[23]
/-- Id 25, in ms. -/
def Params.changeoverGap (p : Params) : Nat := p[24]
/-- Id 26, in ms. -/
def Params.exercisePulse (p : Params) : Nat := p[25]
/-- Id 27. -/
def Params.roomThreshold (p : Params) : Nat := p[26]
/-- Id 28. -/
def Params.doorHold (p : Params) : Nat := p[27]
/-- Id 29, in ms. -/
def Params.settleTime (p : Params) : Nat := p[28]
/-- Id 30. -/
def Params.holdMin (p : Params) : Nat := p[29]
/-- Id 31. -/
def Params.holdMax (p : Params) : Nat := p[30]
/-- Id 32. -/
def Params.creepStep (p : Params) : Nat := p[31]
/-- Id 33. -/
def Params.creepHold (p : Params) : Nat := p[32]
/-- Id 34, in s. -/
def Params.promoteDelay (p : Params) : Nat := p[33]
/-- Id 35, in s. -/
def Params.quietWindow (p : Params) : Nat := p[34]
/-- Id 36, in s. -/
def Params.cycleWindow (p : Params) : Nat := p[35]
/-- Id 37. -/
def Params.cycleBudget (p : Params) : Nat := p[36]
/-- Id 38. -/
def Params.releaseReserve (p : Params) : Nat := p[37]
/-- Id 39, in s. -/
def Params.withheldLimit (p : Params) : Nat := p[38]
/-- Id 40. -/
def Params.autoHold (p : Params) : Bool := p[39] != 0
/-- Id 41. -/
def Params.undervoltOn (p : Params) : Bool := p[40] != 0
/-- Id 42. -/
def Params.overpressureOn (p : Params) : Bool := p[41] != 0
/-- Id 43. -/
def Params.scanStallOn (p : Params) : Bool := p[42] != 0

/-- The ranges of ids 1 to 43, in id order (R196). -/
def paramRanges : List (Nat × Nat) :=
  [(0, 250), (0, 250), (0, 250), (0, 100), (0, 100), (0, 100), (100, 850), (100, 850), (100, 850), (1, 100), (1, 100),
   (2, 30), (5, 50), (1, 10), (2000, 4000), (2000, 4000), (2000, 4000), (40, 120), (40, 120), (40, 120), (5, 40),
   (2, 30), (1, 50), (8, 32), (1, 10), (2, 40), (0, 23), (50, 800), (100, 2000), (20, 400), (100, 800), (10, 200),
   (80, 800), (5, 600), (2, 30), (60, 3600), (1, 16), (500, 900), (2, 60), (0, 1), (0, 1), (0, 1), (0, 1)]

/-- The value lies in the range of an id of 1 to 43; no for any other id (R197). -/
def inRange (id v : Nat) : Bool :=
  1 ≤ id &&
    match paramRanges[id - 1]? with
    | some (lo, hi) => lo ≤ v && v ≤ hi
    | none => false

/-- The joint checks of an id on the parameter set after the change: slip off below slip on (R99); hold_min not above
hold_max (R167). -/
def jointOk (p : Params) (id : Nat) : Bool :=
  if id = 21 || id = 22 then p.slipOff < p.slipOn
  else if id = 30 || id = 31 then p.holdMin ≤ p.holdMax
  else true

/-- The parameter set with the value of an id written (R197). -/
def setParam (p : Params) (id v : Nat) : Params := if h : id - 1 < 43 then p.set (id - 1) v h else p

/-! ### Scan list (R114 to R116, R126) -/

/-- The inputs named by the first records of the list. -/
def inputsOf (records : Vector PointRecord 16) (length : Nat) : List (Fin 12) :=
  ((List.finRange 16).filter fun i => i.val < length).map fun i => records[i].input

/-- Every input is named at least once within the list (R114, R126). -/
def coversInputs (records : Vector PointRecord 16) (length : Nat) : Bool :=
  (List.finRange 12).all fun k => (inputsOf records length).contains k

/-- A record whose input is changed: to a different input its edges become the widest that input allows (R116). -/
def PointRecord.withInput (r : PointRecord) (k : Fin 12) : PointRecord :=
  if r.input = k then r
  else if k = 11 then { r with input := k, low := 160, high := 400 }
  else { r with input := k, low := 0, high := 1000 }

/-- The low edge of the window a record is judged by (R116). -/
def PointRecord.lowEdge (r : PointRecord) : Nat :=
  if r.input.val < 6 then 0 else if r.input = 11 then 160 else r.low

/-- The high edge of the window a record is judged by (R116). -/
def PointRecord.highEdge (r : PointRecord) (p : Params) : Nat :=
  if h : r.input.val < 6 then p.pmax (axleOf ⟨r.input.val, h⟩) + 80 else r.high

/-- The checks of a SET_PARAM of the scan-list group, ids 44 to 49: range and R126. -/
def scanParamOk (g : Sampling) (id v : Nat) : Bool :=
  match id with
  | 44 => v ≤ 15
  | 45 => 12 ≤ v && v ≤ 16 && coversInputs g.records v
  | 46 => if h : v < 12 then
            !(g.selector.val < g.length)
              || coversInputs (alter g.records g.selector fun r => r.withInput ⟨v, h⟩) g.length
          else false
  | 47 => v ≤ 1
  | 48 => let r := g.records[g.selector]
          6 ≤ r.input.val && r.input.val ≤ 10 && v ≤ 1000 && v ≤ r.high
  | 49 => let r := g.records[g.selector]
          6 ≤ r.input.val && r.low ≤ v && (if r.input = 11 then 160 ≤ v && v ≤ 400 else v ≤ 1000)
  | _ => false

/-- The checks 3 to 5 of R197 on an id and a value. -/
def paramOk (p : Params) (g : Sampling) (id v : Nat) : Bool :=
  if id < 44 then inRange id v && jointOk (setParam p id v) id else scanParamOk g id v

/-- The value in force of an id, as an answer carries it; 0 for an unknown id (R197). -/
def valueInForce (p : Params) (g : Sampling) (id : Nat) : Nat :=
  if h : 1 ≤ id ∧ id ≤ 43 then p[id - 1]
  else
    match id with
    | 44 => g.selector.val
    | 45 => g.length
    | 46 => g.records[g.selector].input.val
    | 47 => if g.records[g.selector].watch then 1 else 0
    | 48 => g.records[g.selector].low
    | 49 => g.records[g.selector].high
    | _ => 0

/-! ### Excerpts (R190) -/

/-- The excerpt a request names, or none where it is refused BAD_FIELD (R190). -/
def excerptKindOf (preset start count : Byte) : Option ExcerptKind :=
  if preset.getLsbD 0 then some (if preset.getLsbD 1 then .roster else .channels)
  else if count.toNat = 0 || 31 < start.toNat then none
  else some (.range start.toNat (min (min count.toNat 8) (32 - start.toNat)))

/-- The exercise mode a request names, or none where it is refused BAD_FIELD (R146). -/
def exerciseModeOf (mode count : Byte) : Option ExerciseMode :=
  match mode.toNat with
  | 0 => if count.toNat = 0 then none else some (.count count.toNat)
  | 1 => some .freeRun
  | _ => none

end Sys2Proof.Machine
end

