-- ==== Sys2Proof/Machine/Flags.lean ====
section
/-!
DEFINITION. The flags and values the blocks read from one another: counts of the table, latest results of inputs,
windows, speeds, slips, cause sets, and the sixteen outputs.
-/

namespace Sys2Proof.Machine

/-- ROOM_LOW (R8). -/
def roomLow (t : Table) (p : Params) : Bool := freeGeneral t < p.roomThreshold

/-! ### Inputs (R117, R118) -/

/-- The latest result of an input (R118). -/
def InputItems.latest (x : InputItems) : Option ConvResult := x.current <|> x.standing

/-- The latest valid value of an input, 0 when there is none (R118, R77, R82). -/
def InputItems.latestValid (x : InputItems) : Nat := (x.currentValid <|> x.standingValid).getD 0

/-- The input is INVALID to its readers; an input with no result is not (R118). -/
def InputItems.invalid (x : InputItems) : Bool :=
  match x.latest with
  | some r => r.value.isNone
  | none => false

/-- The measured pressure p_c of a channel (R82). -/
def measured (g : Sampling) (c : Channel) : Nat := g.inputs[c.castLE (by decide : 6 ≤ 12)].latestValid

/-- The channel's pressure point is INVALID (R84). -/
def pressureInvalid (g : Sampling) (c : Channel) : Bool := g.inputs[c.castLE (by decide : 6 ≤ 12)].invalid

/-- The supply pressure S of a circuit (R77). -/
def supply (g : Sampling) (k : CircuitId) : Nat := if k = 0 then g.inputs[6].latestValid else g.inputs[7].latestValid

/-- The value a valid raw value gives for an input (R117). -/
def valueOfRaw (input : Fin 12) (raw : Nat) : Nat :=
  if input = 11 then (raw * 400 + 2048) / 4096
  else if raw < 410 then 0
  else min 1000 (((raw - 410) * 1000 + 1638) / 3276)

/-- The value of a conversion; none is INVALID (R117). -/
def convert (input : Fin 12) (raw : BitVec 12) : Option Nat :=
  if raw.toNat < 82 || 4013 < raw.toNat then none else some (valueOfRaw input raw.toNat)

/-- Where a value stands against a window (R116). -/
def windowStatus (v low high : Nat) : WindowStatus :=
  if v < low then .below else if high < v then .above else .inside

/-! ### Speeds and slips (R92, R94, R98) -/

/-- The wheel speed from an interval in µs (R92). -/
def speedOf (circumference teeth interval : Nat) : Nat :=
  if interval = 0 then 1500 else min 1500 ((circumference * 36000) / (teeth * interval))

/-- The greatest speed among the channels whose SENSOR_SUSPECT is clear, 0 when there is none (R94). -/
def referenceSpeed (w : Vector Wheel 6) : Nat :=
  (List.finRange 6).foldl (fun m c => if w[c].suspect then m else max m w[c].speed) 0

/-- The slip of a channel in per cent (R98). -/
def slipOf (vref v : Nat) : Nat := if v < vref && 50 ≤ vref then ((vref - v) * 100) / vref else 0

/-! ### Circuits and trip sources -/

/-- The cause set is empty (R150). -/
def Causes.isEmpty (k : Causes) : Bool :=
  !k.starting && !k.trip && !k.pressureInvalid && !k.supplyInvalid && !k.pedalLost

/-- The circuit of a channel is ELECTRONIC. -/
def electronic (s : State) (c : Channel) : Bool := s.circuit[circuitOf c].mode = .electronic

/-- The rear circuit is ELECTRONIC (R140). -/
def rearElectronic (s : State) : Bool := s.circuit[1].mode = .electronic

/-- The sources that are in a set and enabled; CUT_LINE is always enabled (R156). -/
def TripSet.enabled (x : TripSet) (p : Params) : TripSet :=
  { cutLine := x.cutLine, undervolt := x.undervolt && p.undervoltOn,
    overpressure := x.overpressure && p.overpressureOn, scanStall := x.scanStall && p.scanStallOn }

/-- The sources in both of two sets. -/
def TripSet.both (x y : TripSet) : TripSet :=
  { cutLine := x.cutLine && y.cutLine, undervolt := x.undervolt && y.undervolt,
    overpressure := x.overpressure && y.overpressure, scanStall := x.scanStall && y.scanStall }

/-- The sources in either of two sets. -/
def TripSet.either (x y : TripSet) : TripSet :=
  { cutLine := x.cutLine || y.cutLine, undervolt := x.undervolt || y.undervolt,
    overpressure := x.overpressure || y.overpressure, scanStall := x.scanStall || y.scanStall }

/-- The sources of the first set that are not in the second. -/
def TripSet.minus (x y : TripSet) : TripSet :=
  { cutLine := x.cutLine && !y.cutLine, undervolt := x.undervolt && !y.undervolt,
    overpressure := x.overpressure && !y.overpressure, scanStall := x.scanStall && !y.scanStall }

/-- The set holds a source. -/
def TripSet.nonempty (x : TripSet) : Bool := x.cutLine || x.undervolt || x.overpressure || x.scanStall

/-- The empty set of trip sources. -/
def TripSet.none : TripSet := { cutLine := false, undervolt := false, overpressure := false, scanStall := false }

/-! ### Standstill -/

/-- SECURING or SECURED, in which non-PARK POSTs are refused and the cab sources stand (R37, R54). -/
def securingOrSecured (s : State) : Bool := s.coord.state = .securing || s.coord.state = .secured

/-- The driver asks to move off with the foot off: drive-request active, determined travel 50 ‰ or less
(R60, R172, R178). -/
def moveOffAsked (s : State) : Bool :=
  s.lines.drive &&
    match s.pedal.travel with
    | some t => t ≤ 50
    | none => false

/-- The greater drive-channel pressure (R170). -/
def drivePressure (s : State) : Nat := max (measured s.sampling 2) (measured s.sampling 3)

/-- A value clamped to a range (00_scope, Arithmetic). -/
def clampTo (v lo hi : Nat) : Nat := max lo (min v hi)

/-- DOOR_OPEN_MOVING as its conditions give it (R62). -/
def doorMoving (s : State) : Bool := !securingOrSecured s && s.door.state && 30 < s.vref

/-- The slip phase a channel is reported in: a tag channel standing alone is in FOLLOW (R108, R113). -/
def reportedPhase (x : Slip) (c : Channel) : SlipPhase :=
  if c = 4 then (if x.tlJoined then x.group[4].phase else .follow)
  else if c = 5 then (if x.trJoined then x.group[4].phase else .follow)
  else if h : c.val < 4 then x.group[c.val].phase
  else .follow

/-! ### Outputs (R132) -/

/-- The inlet valve of a channel is energised (R132, R136). -/
def inletOn (s : State) (c : Channel) : Bool := (s.valve.chan[c].running.map Pulse.valve) = some .inlet

/-- The exhaust valve of a channel is energised (R132, R136). -/
def exhaustOn (s : State) (c : Channel) : Bool := (s.valve.chan[c].running.map Pulse.valve) = some .exhaust

/-- The backup valve of a circuit is energised (R133). -/
def backupOn (s : State) (k : CircuitId) : Bool := s.circuit[k].mode = .electronic && !s.trip.tripped

/-- The park APPLY coil is energised (R139). -/
def applyCoilOn (s : State) : Bool := s.park.state = .applying && s.park.step = some .pulse

/-- The park RELEASE coil is energised (R141). -/
def releaseCoilOn (s : State) : Bool := s.park.state = .releasing && s.park.step = some .pulse

/-- The modulator outputs of a channel are cut (R134). -/
def outputsCut (s : State) (c : Channel) : Bool := !electronic s c || s.trip.tripped

end Sys2Proof.Machine
end

