-- ==== Sys2Proof/Machine/Frames.lean ====
section
/-!
DEFINITION. The byte layouts of the frames the block sends: answers (R48), excerpts (R49) and status (R50).
-/

namespace Sys2Proof.Machine

/-- The low byte of a number. -/
def lo8 (n : Nat) : Byte := BitVec.ofNat 8 n

/-- The second byte of a number. -/
def hi8 (n : Nat) : Byte := BitVec.ofNat 8 (n / 256)

/-- A byte from its bits, bit 0 first (R47). -/
def bitsOf : List Bool → Nat
  | [] => 0
  | b :: bs => (if b then 1 else 0) + 2 * bitsOf bs

/-- The code of a frame kind (R47). -/
def Kind.code : Kind → Byte
  | .post => 1
  | .refresh => 2
  | .release => 3
  | .excerpt => 4
  | .setParam => 5
  | .setRoster => 6
  | .store => 7
  | .clearTrip => 8
  | .exercise => 9
  | .exerciseStop => 10
  | .restart => 11
  | .exerciseDone => 12

/-- The code of an outcome (R48). -/
def AnswerCode.code : AnswerCode → Byte
  | .accepted => 0
  | .acceptedClamped => 1
  | .notEnrolled => 2
  | .classNotPermitted => 3
  | .scopeNotPermitted => 4
  | .badField => 5
  | .tableFull => 6
  | .roomLow => 7
  | .unknownEntry => 8
  | .lapsed => 9
  | .wrongState => 10
  | .busy => 11
  | .tripCausePresent => 12
  | .vehicleSecured => 13

/-- The code of an exercise end reason (R48). -/
def EndReason.code : EndReason → Nat
  | .countComplete => 1
  | .stopRequest => 2
  | .vehicleMoving => 3
  | .leftAutoPark => 4
  | .tripped => 5
  | .circuitFallback => 6

/-- The latched causes as STATUS A byte 2 carries them (R50). -/
def TripSet.byte (x : TripSet) : Byte := lo8 (bitsOf [x.cutLine, x.undervolt, x.overpressure, x.scanStall])

/-- Byte 5 of an answer: free EMERGENCY slots and ROOM_LOW (R48). -/
def roomByte (t : Table) (p : Params) : Byte := lo8 (freeEmergency t + if roomLow t p then 128 else 0)

/-- An answer frame to an address (R48); the counts are those of the table given. -/
def answerFrame (t : Table) (p : Params) (a : Address) (kind : Kind) (subject : Byte) (code : AnswerCode)
    (b3 b6 b7 : Byte) : Frame :=
  { ident := BitVec.ofNat 11 (0x260 + a.val), b0 := kind.code, b1 := subject, b2 := code.code, b3 := b3,
    b4 := lo8 (freeGeneral t), b5 := roomByte t p, b6 := b6, b7 := b7 }

/-- Byte 3 of a demand answer (R48). -/
def handleByte : Option Slot → Byte
  | some i => lo8 i.val
  | none => 0xFF

/-- Byte 3 of an exercise answer: end reason, bit 7 WRAPPED (R48). -/
def reasonByte (r : EndReason) (wrapped : Bool) : Byte := lo8 (r.code + if wrapped then 128 else 0)

/-! ### Excerpt frames (R49) -/

/-- The code of an entry state (R49). -/
def EntryState.code : EntryState → Nat
  | .active => 0
  | .retiring => 1
  | .lapsing => 2
  | .frozen => 3

/-- The code of a slip phase (R49). -/
def SlipPhase.code : SlipPhase → Nat
  | .follow => 0
  | .dump => 1
  | .hold => 2
  | .reapply => 3

/-- The code of a roster state (R49). -/
def RosterState.code : RosterState → Nat
  | .absent => 0
  | .enrolled => 1
  | .muted => 2

/-- The identifier of an excerpt frame to an address (R32). -/
def excerptIdent (a : Address) : BitVec 11 := BitVec.ofNat 11 (0x2A0 + a.val)

/-- The frame of a snapshot item (R49). -/
def itemFrame (ident : BitVec 11) : SnapshotItem → Frame
  | .slot i (some e) =>
      { ident, b0 := 1
        b1 := lo8 (i.val + 32 * classCode e.cls)
        b2 := lo8 (e.source.val + 32 * e.state.code + if e.policy = .freeze then 128 else 0)
        b3 := lo8 (e.scope.toNat + (if e.gate.isSome then 64 else 0) + if e.lifetime.isSome then 128 else 0)
        b4 := lo8 (e.value.getD 0), b5 := hi8 (e.value.getD 0)
        b6 := lo8 e.blend, b7 := e.gate.getD 0 }
  | .slot i none => { ident, b0 := 2, b1 := lo8 i.val, b2 := 0, b3 := 0, b4 := 0, b5 := 0, b6 := 0, b7 := 0 }
  | .channel c x =>
      { ident, b0 := 3, b1 := lo8 c.val, b2 := lo8 x.target, b3 := hi8 x.target, b4 := lo8 x.measured,
        b5 := hi8 x.measured, b6 := lo8 x.phase.code
        b7 := lo8 (bitsOf [x.suspect, x.slipFault, x.supplyLimited, x.invalid, x.owned]) }
  | .roster a r =>
      { ident, b0 := 4, b1 := lo8 a.val, b2 := lo8 r.state.code, b3 := lo8 r.classes.toNat, b4 := lo8 r.scope.toNat,
        b5 := if r.configure then 1 else 0, b6 := lo8 r.malformed, b7 := 0 }

/-- The END frame of a request whose emission held n frames (R49, R192). -/
def endFrame (r : ExcerptRequest) (n : Nat) : Frame :=
  { ident := excerptIdent r.requester, b0 := 5
    b1 := match r.kind with
      | .range _ _ => 0
      | .channels => 1
      | .roster => 2
    b2 := lo8 n
    b3 := match r.kind with
      | .range start _ => lo8 start
      | .channels => 0
      | .roster => 0
    b4 := 0, b5 := 0, b6 := 0, b7 := 0 }

/-- All the frames of an emission, END last (R192). -/
def emissionFrames (e : Emission) : List Frame :=
  e.snapshot.map (itemFrame (excerptIdent e.request.requester)) ++ [endFrame e.request e.snapshot.length]

/-! ### Snapshots (R191) -/

/-- The copy of a channel (R191). -/
def channelCopy (s : State) (c : Channel) : ChannelCopy :=
  { target := s.alloc.target[c], measured := measured s.sampling c, phase := reportedPhase s.slip c,
    suspect := s.wheel[c].suspect, slipFault := s.slip.fault[c], supplyLimited := s.alloc.supplyLimited[c],
    invalid := pressureInvalid s.sampling c, owned := s.exercise.owning = some c }

/-- The snapshot of a request, taken from the state standing (R191). -/
def snapshotOf (s : State) : ExcerptKind → List SnapshotItem
  | .range start count =>
      ((List.finRange 32).filter fun i => start ≤ i.val && i.val < start + count).map fun i => .slot i s.table[i]
  | .channels => (List.finRange 6).map fun c => .channel c (channelCopy s c)
  | .roster => (List.finRange 16).map fun a => .roster a s.roster[a]

/-! ### Status frames (R50) -/

/-- The code of a standstill state (R50). -/
def Standstill.code : Standstill → Nat
  | .run => 0
  | .stopHold => 1
  | .autoPark => 2
  | .creepHold => 3
  | .securing => 4
  | .secured => 5

/-- The code of a circuit mode (R50). -/
def Mode.code : Mode → Nat
  | .electronic => 0
  | .fallback => 1
  | .resting => 2

/-- STATUS A (R50). -/
def statusA (s : State) : Frame :=
  { ident := 0x280, b0 := lo8 s.coord.state.code
    b1 := lo8 (s.circuit[0].mode.code + 4 * s.circuit[1].mode.code + if s.trip.tripped then 16 else 0)
    b2 := s.trip.latched.byte, b3 := lo8 s.vref, b4 := hi8 s.vref
    b5 := lo8 (freeGeneral s.table), b6 := roomByte s.table s.settings.params
    b7 := lo8 ((if s.settings.configDefaulted then 1 else 0) + if s.override.flag then 4 else 0) }

/-- The measured byte of a channel in STATUS B; 0xFF when its point is INVALID (R50, R88). -/
def measuredByte (s : State) (c : Channel) : Byte :=
  if pressureInvalid s.sampling c then 0xFF else lo8 (measured s.sampling c / 4)

/-- STATUS B of a page (R50). -/
def statusB (s : State) (page : Fin 2) : Frame :=
  let c0 : Channel := ⟨3 * page.val, by omega⟩
  let c1 : Channel := ⟨3 * page.val + 1, by omega⟩
  let c2 : Channel := ⟨3 * page.val + 2, by omega⟩
  { ident := 0x281, b0 := lo8 page.val
    b1 := lo8 (s.alloc.target[c0] / 4), b2 := measuredByte s c0
    b3 := lo8 (s.alloc.target[c1] / 4), b4 := measuredByte s c1
    b5 := lo8 (s.alloc.target[c2] / 4), b6 := measuredByte s c2
    b7 := lo8 (bitsOf s.alloc.supplyLimited.toList) }

/-- STATUS C (R50). -/
def statusC (s : State) : Frame :=
  { ident := 0x282
    b0 := lo8 (bitsOf ((List.finRange 6).map (fun c => s.wheel[c].suspect) ++ [s.pedal.disagree, s.pedal.single]))
    b1 := lo8 (bitsOf ((List.finRange 6).map (fun c => s.slip.fault[c]) ++ [s.park.fault, s.park.withheld]))
    b2 := lo8 (bitsOf [s.coord.airLow, s.coord.rollingSecured, s.doorOpenMoving])
    b3 := lo8 s.coord.promotionRefused, b4 := lo8 s.port.answersDropped, b5 := lo8 s.sampling.overrun
    b6 := lo8 s.coord.springCycles.length, b7 := 0 }

end Sys2Proof.Machine
end

