-- ==== Sys2Proof/Machine/Port.lean ====
section
/-!
DEFINITION. The CAN port: answers (R40, R42), the excerpt engine (R190 to R193), the transmit arbiter (R43), the port
state (R44 to R46), and the status places (R43, R195).
-/

namespace Sys2Proof.Machine

/-! ### Answers -/

/-- A formed answer joins the answer queue; it is dropped and counted when 8 wait, and discarded uncounted while the
port is OFFLINE (R42, R45). -/
def Port.push (p : Port) (f : Frame) (restart : Bool) : Port :=
  { p with
    answers := if p.online && p.answers.length < 8 then p.answers ++ [{ frame := f, restart := restart }] else p.answers
    answersDropped :=
      if p.online && !(p.answers.length < 8) then min 255 (p.answersDropped + 1) else p.answersDropped }

/-- Form an answer from the state standing and place it in the queue (R40, R48). -/
def answer (s : State) (a : Address) (kind : Kind) (subject : Byte) (code : AnswerCode) (b3 b6 b7 : Byte) : State :=
  { s with port := s.port.push (answerFrame s.table s.settings.params a kind subject code b3 b6 b7) false }

/-! ### Excerpt engine -/

/-- Place the next frames of the emission into the free places of the excerpt frame queue (R193; log entry 8). -/
def fillExcerpts (s : State) : State :=
  match s.excerpt.emission with
  | none => s
  | some e =>
    let more := ((emissionFrames e).drop e.placed).take (2 - s.port.excerpts.length)
    { s with port := { s.port with excerpts := s.port.excerpts ++ more }
             excerpt := { s.excerpt with emission := some { e with placed := e.placed + more.length } } }

/-- The start of an emission: the snapshot is taken and the first frames are placed (R191, R193). -/
def startEmission (s : State) (r : ExcerptRequest) : State :=
  fillExcerpts { s with excerpt := { s.excerpt with
    emission := some { request := r, snapshot := snapshotOf s r.kind, placed := 0 } } }

/-- The completion of an emission: the snapshot is discarded, and the oldest waiting request starts (R193). -/
def finishEmission (s : State) : State :=
  match s.excerpt.waiting with
  | [] => { s with excerpt := { emission := none, waiting := [] } }
  | r :: rest => startEmission { s with excerpt := { emission := none, waiting := rest } } r

/-! ### Transmit arbiter -/

/-- A status place with nothing in it. -/
def emptyPlace : StatusPlace := { current := none, behind := none }

/-- The frames pending at the port, holder by holder, the longest pending first within a holder (R43). -/
def pendingFrames (p : Port) : List Transmission :=
  p.answers.map (fun q => { holder := .answer, frame := q.frame, restart := q.restart, held := true })
    ++ (List.finRange 3).filterMap (fun k => p.status[k].current.map fun f =>
        { holder := .status k, frame := f, restart := false, held := true })
    ++ p.excerpts.map fun f => { holder := .excerpt, frame := f, restart := false, held := true }

/-- The frame of lowest identifier, the one pending longest among equals (R43). -/
def lowestIdent : List Transmission → Option Transmission
  | [] => none
  | x :: xs =>
    match lowestIdent xs with
    | none => some x
    | some y => if y.frame.ident.toNat < x.frame.ident.toNat then some y else some x

/-- What the arbiter puts into transmission: nothing while OFFLINE or while a frame is in transmission (R43). -/
def Port.chosen (p : Port) : Option Transmission :=
  if p.online && p.tx.isNone then lowestIdent (pendingFrames p) else none

/-- The place once its frame has left, or has failed with a later frame behind it (R43). -/
def StatusPlace.advance (x : StatusPlace) : StatusPlace := { current := x.behind, behind := none }

/-- The place after its frame failed: the frame behind, if any, takes its place (R43). -/
def StatusPlace.failed (x : StatusPlace) : StatusPlace := if x.behind.isSome then x.advance else x

/-- A frame that has been sent leaves its holder (R43). -/
def Port.leaveHolder (p : Port) (t : Transmission) : Port :=
  match t.holder with
  | .answer => { p with answers := p.answers.eraseP fun q => q.frame.ident = t.frame.ident }
  | .status k => { p with status := alter p.status k StatusPlace.advance }
  | .excerpt => { p with excerpts := p.excerpts.drop 1 }

/-- The port after a transmission completed (R43, R44). -/
def Port.completed (p : Port) (t : Transmission) : Port :=
  { (if t.held then p.leaveHolder t else p) with tx := none, errorCount := p.errorCount - 1 }

/-- The error count after a failure (R44). -/
def errorAfter (count : Nat) : TransmitFault → Nat
  | .arbitrationLost => count
  | .busError => min 256 (count + 8)
  | .noAcknowledgement => if count < 128 then min 256 (count + 8) else count

/-- The port after a transmission failed, its state not yet decided (R43, R44). -/
def Port.failed (p : Port) (t : Transmission) (why : TransmitFault) : Port :=
  { p with
    tx := none
    errorCount := errorAfter p.errorCount why
    status := match t.holder with
      | .status k => if t.held then alter p.status k StatusPlace.failed else p.status
      | .answer => p.status
      | .excerpt => p.status }

/-- A status frame formed: discarded while OFFLINE, behind a frame of its identifier in transmission, else in the
place of its identifier (R43, R45, R195). -/
def Port.placeStatus (p : Port) (k : Fin 3) (f : Frame) : Port :=
  let inTransmission : Bool := match p.tx with
    | some t => t.held && t.holder == .status k
    | none => false
  { p with status :=
      if !p.online then p.status
      else alter p.status k fun x => if inTransmission then { x with behind := some f } else { x with current := some f } }

/-! ### Port state -/

/-- Every frame pending at the port is discarded (R45). -/
def Port.discard (p : Port) : Port :=
  { p with answers := [], status := Vector.replicate 3 emptyPlace, excerpts := [] }

/-- The port goes OFFLINE: the frames and excerpts are discarded and the recovery wait starts (R44, R45, R193). -/
def goOffline (s : State) : State :=
  { s with
    port := { s.port.discard with online := false, tx := none, recovery := some (s.clock.us + msec 200) }
    excerpt := { emission := none, waiting := [] } }

/-- The answer of the pending restart is among the frames pending or in transmission. -/
def Port.holdsRestart (p : Port) : Bool :=
  p.answers.any QueuedAnswer.restart ||
    match p.tx with
    | some t => t.restart
    | none => false

end Sys2Proof.Machine
end

