-- ==== Sys2Proof/Machine/Park.lean ====
section
/-!
DEFINITION. The park valve state machine (R138 to R145), what it reports to the standstill coordinator (R145, R179,
R181), and the hand-over of the table's PARK entries to it (R19).
-/

namespace Sys2Proof.Machine

/-! ### Reports to the coordinator's record -/

/-- The time of a RELEASE pulse joins the spring-cycle list, the oldest leaving a full one (R181). -/
def joinCycles (l : List Ms) (t : Ms) : List Ms := (if l.length < 16 then l else l.drop 1) ++ [t]

/-- The release watch closes and a running withheld-release timer is discarded (R179). -/
def Coordinator.closeWatch (k : Coordinator) : Coordinator := { k with watchOpen := false, withheldTimer := none }

/-- RELEASE_WITHHELD set: the withheld-release timer starts under an open watch, unless it runs (R179). -/
def Coordinator.withheldSet (k : Coordinator) (expiry : Nat) : Coordinator :=
  { k with withheldTimer := if k.watchOpen && k.withheldTimer.isNone then some expiry else k.withheldTimer }

/-- The start of a release attempt: its time joins the list, AIR_LOW is cleared, and the cleared RELEASE_WITHHELD
discards the withheld-release timer (R141, R179, R181). -/
def Coordinator.releaseStarted (k : Coordinator) (now : Ms) : Coordinator :=
  { k with springCycles := joinCycles k.springCycles now, airLow := false, withheldTimer := none }

/-! ### Attempts -/

/-- An apply attempt starts: pulse 1 of up to 3 on the APPLY coil (R139). -/
def Park.startApply (p : Park) (now : Nat) : Park :=
  { p with state := .applying, step := some .pulse, pulses := 1, pulseTimer := some (now + msec 150),
           confirmTimer := none, retryTimer := none, applyPending := false }

/-- A release attempt starts: one pulse on the RELEASE coil; RELEASE_WITHHELD is cleared (R140, R141). -/
def Park.startRelease (p : Park) (now : Nat) : Park :=
  { p with state := .releasing, step := some .pulse, pulseTimer := some (now + msec 150), confirmTimer := none,
           retryTimer := none, applyPending := false, withheld := false }

/-- The attempt failed: PARK_FAULT with the 10 s retry timer (R139, R141). -/
def Park.fail (p : Park) (now : Nat) : Park :=
  { p with state := .parkFault, step := none, confirmTimer := none, pulses := 0, fault := true,
           retryTimer := some (now + sec 10) }

/-- The release conditions of R140. -/
def releaseConditions (s : State) : Bool :=
  !anyPark s.table && s.settings.params.releaseReserve ≤ supply s.sampling 1 && rearElectronic s

/-- The park valve stands where release can be evaluated: APPLIED or PARK_FAULT (R140; log entry 21). -/
def Park.canRelease (p : Park) : Bool := p.state = .applied || p.state = .parkFault

/-- Release is evaluated: a release attempt starts, or RELEASE_WITHHELD is set (R140, R141, R179). -/
def evaluateRelease (s : State) : State :=
  if !s.park.canRelease then s
  else if releaseConditions s then
    { s with park := s.park.startRelease s.clock.us, coord := s.coord.releaseStarted s.clock.ms }
  else
    { s with park := { s.park with withheld := true }
             coord := s.coord.withheldSet (s.clock.us + sec s.settings.params.withheldLimit) }

/-- Release is evaluated again while RELEASE_WITHHELD is set (R140). -/
def reevaluateRelease (s : State) : State := if s.park.withheld then evaluateRelease s else s

/-! ### Park wanted -/

/-- The park valve at the event at which park becomes wanted (R138, R142, R143); RELEASE_WITHHELD is cleared (R140). -/
def Park.becomesWanted (p : Park) (now : Nat) : Park :=
  let q := { p with wanted := true, withheld := false }
  match p.state with
  | .released => q.startApply now
  | .applying => q
  | .applied => q
  | .releasing => if p.step = some .pulse then { q with applyPending := true } else q.startApply now
  | .parkFault => q.startApply now

/-- Park becomes wanted; the release watch closes (R138, R179). -/
def parkBecomesWanted (s : State) : State :=
  { s with park := s.park.becomesWanted s.clock.us, coord := s.coord.closeWatch }

/-- Park ceases to be wanted: release is evaluated in APPLIED, and every other state stands (R138, R142). -/
def parkCeases (s : State) : State :=
  let s' := { s with park := { s.park with wanted := false } }
  if s.park.state = .applied then evaluateRelease s' else s'

/-- A new table: where it holds its first PARK entry or has lost its last one, the valve drive is told at the same
event (R7, R19). -/
def putTable (s : State) (t : Table) : State :=
  let s' := { s with table := t }
  if anyPark t && !anyPark s.table then parkBecomesWanted s'
  else if !anyPark t && anyPark s.table then parkCeases s'
  else s'

/-- The coordinator's reapply request (R144). -/
def reapply (s : State) : State :=
  { s with park := if s.park.canRelease then s.park.startApply s.clock.us else s.park }

end Sys2Proof.Machine
end

