-- ==== Sys2Proof/Machine/Valves.lean ====
section
/-!
DEFINITION. The modulator valves: pulses formed at a modulation period start, pulses cut (R132 to R137), and the
exercise engine (R146 to R148).
-/

namespace Sys2Proof.Machine

/-! ### Pulses -/

/-- HOLD with duty 0. -/
def holdCommand : Command := { dir := .hold, duty := 0 }

/-- The valve a command names; HOLD and any direction with duty 0 name none (R136). -/
def Command.valve (c : Command) : Option Valve :=
  if c.duty = 0 then none
  else
    match c.dir with
    | .apply => some .inlet
    | .release => some .exhaust
    | .hold => none

/-- The on-time of a duty in µs: (duty × M) div 100 in tenths of a millisecond (R136). -/
def onTime (duty modulation : Nat) : Nat := duty * (modulation * 10) / 100 * 100

/-- Where a pulse of a valve starts: the changeover gap after the other valve's recorded end, or the period start if
that is later (R136). -/
def pulseStart (last : Option LastPulse) (valve : Valve) (now gap : Nat) : Nat :=
  match last with
  | some l => if l.valve = valve then now else max now (l.stop + msec gap)
  | none => now

/-- A pulse of a valve with an on-time in the period that starts now, or none by the minimum pulse (R136). Gap and
modulation period are in ms, the on-time in µs. -/
def formPulse (last : Option LastPulse) (valve : Valve) (on now gap modulation : Nat) : Option Pulse :=
  let start := pulseStart last valve now gap
  let stop := min (start + on) (now + msec modulation)
  if stop < start + 2000 then none else some { valve := valve, start := start, stop := stop }

/-- A channel at a modulation period start with the pulse formed for it; no pulse leaves the record of the last pulse
unchanged (R136, R137). -/
def ChannelDrive.withPulse (d : ChannelDrive) (pulse : Option Pulse) : ChannelDrive :=
  match pulse with
  | some p => { d with waiting := some p, last := some { valve := p.valve, stop := p.stop } }
  | none => { d with waiting := none }

/-- The pulse of a command at a period start (R136). -/
def commandPulse (d : ChannelDrive) (c : Command) (p : Params) (now : Nat) : Option Pulse :=
  match c.valve with
  | some v => formPulse d.last v (onTime c.duty p.modulationPeriod) now p.changeoverGap p.modulationPeriod
  | none => none

/-- The forced pulse of the exercise engine at a period start (R147). -/
def forcedPulse (d : ChannelDrive) (v : Valve) (p : Params) (now : Nat) : Option Pulse :=
  formPulse d.last v (msec (min p.exercisePulse p.modulationPeriod)) now p.changeoverGap p.modulationPeriod

/-- A channel at a modulation period start (R134, R136, R147): `cut` says that its outputs are cut, `forced` names the
valve the exercise engine drives there. -/
def ChannelDrive.periodStart (d : ChannelDrive) (cut : Bool) (forced : Option Valve) (p : Params) (now : Nat) :
    ChannelDrive :=
  match forced with
  | some v => d.withPulse (if cut then none else forcedPulse d v p now)
  | none =>
      { d.withPulse (if cut then none else commandPulse d d.buffer p now) with active := d.buffer }

/-- The pulse in progress, and one formed but not begun, end at once (R134, R137; log entry 15). The time of
the cut is recorded to the µs: DESIGN CHOICE, log entry 33. -/
def ChannelDrive.cut (d : ChannelDrive) (now : Nat) : ChannelDrive :=
  { d with
    running := none
    waiting := none
    last := if d.running.isSome || d.waiting.isSome then d.last.map fun l => { l with stop := min l.stop now }
            else d.last }

/-- The formed pulse begins: its valve is energised (R136, R137). -/
def ChannelDrive.begin (d : ChannelDrive) (now : Nat) : ChannelDrive :=
  match d.waiting with
  | some p => if p.start ≤ now then { d with running := some p, waiting := none } else d
  | none => d

/-- The pulse in progress reaches its end, and a pulse whose start has come takes over at once. The end of a pulse that
ends at the period end is left to the period start of that instant while that is still to be taken, so that the valve
stays energised across the boundary whichever of the two comes first (R137; log entry 15). `boundary` is the expiry time
of the modulation timer. -/
def ChannelDrive.finish (d : ChannelDrive) (now boundary : Nat) : ChannelDrive :=
  match d.running with
  | some p =>
      if p.stop ≤ now && p.stop != boundary then ({ d with running := none } : ChannelDrive).begin now else d
  | none => d

/-- A pulse of the channel's running valve has been formed to begin by now. -/
def ChannelDrive.continues (d : ChannelDrive) (now : Nat) : Bool :=
  match d.running, d.waiting with
  | some p, some q => q.valve = p.valve && q.start ≤ now
  | _, _ => false

/-- The pulse in progress at a period start, the new pulse being formed: one whose end has come ends here, unless the new
pulse keeps its valve energised (R137; log entry 15). -/
def ChannelDrive.cross (d : ChannelDrive) (now : Nat) : ChannelDrive :=
  match d.running with
  | some p => if p.stop ≤ now && !d.continues now then { d with running := none } else d
  | none => d

/-! ### Exercise engine -/

/-- The record after cold start and after wake (R146). -/
def idleExercise : Exercise :=
  { running := false, owner := none, channel := none, mode := none, owning := none, next := .inlet, cycles := 0,
    wrapped := false }

/-- The other valve of a channel. -/
def Valve.other : Valve → Valve
  | .inlet => .exhaust
  | .exhaust => .inlet

/-- A running exercise ends with a reason: the engine is IDLE and an EXERCISE_DONE is formed for the owner (R148). -/
def endExercise (s : State) (why : EndReason) : State :=
  if !s.exercise.running then s
  else
    let t := { s with exercise := { s.exercise with running := false } }
    match s.exercise.owner, s.exercise.channel with
    | some a, some c => answer t a .exerciseDone (lo8 c.val) .accepted (reasonByte why s.exercise.wrapped)
                          (lo8 s.exercise.cycles) (hi8 s.exercise.cycles)
    | _, _ => t

/-- The valve the engine drives on a channel at this period start, none when the channel is not taken (R147). -/
def Exercise.forces (x : Exercise) (c : Channel) : Option Valve :=
  if x.running && x.channel = some c then some x.next else none

/-- The engine at a period start at which its forced pulse is formed: the direction alternates, and a RELEASE pulse
counts a cycle (R147, R148). -/
def Exercise.pulsed (x : Exercise) : Exercise :=
  match x.next with
  | .inlet => { x with next := .exhaust }
  | .exhaust =>
      { x with next := .inlet, cycles := if x.cycles < 65535 then x.cycles + 1 else 0,
               wrapped := x.wrapped || !(x.cycles < 65535) }

/-- COUNT has reached its n (R148). -/
def Exercise.countDone (x : Exercise) : Bool :=
  x.running &&
    match x.mode with
    | some (.count n) => x.cycles = n
    | _ => false

/-- The exercise engine's part of a period start, `formed` saying whether its pulse was formed (R147, R148). An
engine started again between an end and this period start takes its channel here, by R147 over R148: DESIGN CHOICE, log
entry 30. -/
def exercisePeriod (s : State) (formed : Bool) : State :=
  let x := { s.exercise with owning := if s.exercise.running then s.exercise.channel else none }
  let y := if x.running && formed then x.pulsed else x
  let t := { s with exercise := y }
  if formed && x.next = .exhaust && y.countDone then endExercise t .countComplete else t

/-- The forced pulse of this period start is formed. -/
def forcedFormed (s : State) : Bool :=
  match s.exercise.channel with
  | some c =>
      s.exercise.running && !outputsCut s c
        && (forcedPulse s.valve.chan[c] s.exercise.next s.settings.params s.clock.us).isSome
  | none => false

/-- A modulation period start (R135 to R137, R147). -/
def modulationStart (s : State) : State :=
  exercisePeriod
    { s with valve :=
        { timer := s.clock.us + msec s.settings.params.modulationPeriod
          chan := mapAll s.valve.chan fun c d =>
            (d.periodStart (outputsCut s c) (s.exercise.forces c) s.settings.params s.clock.us).cross s.clock.us } }
    (forcedFormed s)

end Sys2Proof.Machine
end

