-- ==== Sys2Proof/Machine/SlipControl.lean ====
section
/-!
DEFINITION. Slip control: the phase decision of a group (R101 to R107), the tag pair (R107, R108), and the returns to
FOLLOW (R109 to R112). Groups 0 to 3 are the channels 0 to 3; group 4 is the tag pair.
-/

namespace Sys2Proof.Machine

/-- The group of a channel. -/
def groupOf (c : Channel) : Fin 5 := ⟨min c.val 4, by omega⟩

/-- The channels of a group. -/
def groupChannels (g : Fin 5) : List Channel := (List.finRange 6).filter fun c => groupOf c = g

/-- A group in FOLLOW with its counts at 0 (R100). -/
def followGroup : SlipGroup := { phase := .follow, dump := 0, hold := 0 }

/-- The channel stands in its group: a tag channel when it is joined, any other always (R108). -/
def Slip.joined (x : Slip) (c : Channel) : Bool := if c = 4 then x.tlJoined else if c = 5 then x.trJoined else true

/-- The channels of a group that the phase decision takes: joined, neither SENSOR_SUSPECT nor SLIP_FAULT
(R101, R108). -/
def groupMembers (x : Slip) (w : Vector Wheel 6) (g : Fin 5) : List Channel :=
  (groupChannels g).filter fun c => x.joined c && !w[c].suspect && !x.fault[c]

/-- What a decision gives: the group after it, the reapply pressures of its members, and whether the dump limit was
reached (R106). -/
structure SlipDecision where
  group   : SlipGroup
  reapply : Channel → Nat
  fault   : Bool

/-- A decision that leaves no reapply pressure. -/
def SlipDecision.plain (g : SlipGroup) : SlipDecision := { group := g, reapply := fun _ => 0, fault := false }

/-- Entry to or stay in REAPPLY with new reapply pressures, or the return to FOLLOW when all have met their targets
(R104, R105, R107). A tag channel that waits at its target for the other keeps its capped pressure, so a target that then
rises is followed by the reapply step: DESIGN CHOICE, log entry 29. -/
def reapplyDecision (members : List Channel) (target rc : Channel → Nat) : SlipDecision :=
  if members.all fun c => rc c = target c then SlipDecision.plain followGroup
  else { group := { phase := .reapply, dump := 0, hold := 0 }, reapply := rc, fault := false }

/-- The phase decision of a group with its members (R101 to R107; for a pair that waits in REAPPLY, log entry 29). -/
def decideGroup (p : Params) (g : SlipGroup) (members : List Channel) (slip target pressure rc : Channel → Nat) :
    SlipDecision :=
  let dumping := members.any fun c => p.slipOn ≤ slip c && 0 < target c
  let enterDump := SlipDecision.plain { phase := .dump, dump := 1, hold := 0 }
  if members.all fun c => target c = 0 then SlipDecision.plain followGroup
  else
    match g.phase with
    | .follow => if dumping then enterDump else SlipDecision.plain followGroup
    | .dump =>
        if members.all fun c => slip c < p.slipOff then SlipDecision.plain { phase := .hold, dump := 0, hold := 1 }
        else if g.dump < 50 then SlipDecision.plain { phase := .dump, dump := g.dump + 1, hold := 0 }
        else { group := followGroup, reapply := fun _ => 0, fault := true }
    | .hold =>
        if dumping then enterDump
        else if g.hold < 3 then SlipDecision.plain { phase := .hold, dump := 0, hold := g.hold + 1 }
        else reapplyDecision members target fun c => min (pressure c) (target c)
    | .reapply =>
        if dumping then enterDump
        else reapplyDecision members target fun c => min (rc c + p.reapplyStep) (target c)

/-- The circuit that governs a group. -/
def groupCircuit (g : Fin 5) : CircuitId := if g.val < 2 then 0 else 1

/-- Slip control's decision of one group at an allocation period; a group whose circuit is not ELECTRONIC is not
decided (R101, R112). -/
def decideOne (s : State) (target : Vector Nat 6) (x : Slip) (g : Fin 5) : Slip :=
  if s.circuit[groupCircuit g].mode != .electronic then x
  else
    let members := groupMembers x s.wheel g
    let d := decideGroup s.settings.params x.group[g] members (fun c => slipOf s.vref s.wheel[c].speed)
      (fun c => target[c]) (fun c => measured s.sampling c) (fun c => x.reapply[c])
    { x with
      group := put x.group g d.group
      reapply := mapAll x.reapply fun c v => if groupOf c = g then (if members.contains c then d.reapply c else 0) else v
      fault := mapAll x.fault fun c f => f || (d.fault && groupOf c = g) }

/-- Tag channels no longer suspect rejoin while the pair's phase is FOLLOW (R108; log entry 16). -/
def rejoin (x : Slip) (w : Vector Wheel 6) : Slip :=
  { x with
    tlJoined := x.tlJoined || (x.group[4].phase = .follow && !w[4].suspect)
    trJoined := x.trJoined || (x.group[4].phase = .follow && !w[5].suspect) }

/-- Slip control at an allocation period, given the targets (R101, R107, R108). -/
def slipPeriod (s : State) (target : Vector Nat 6) : Slip :=
  (List.finRange 5).foldl (decideOne s target) (rejoin s.slip s.wheel)

/-- The command source given to the allocation unit for a channel (R81, R101). -/
def sourceOf (x : Slip) (c : Channel) : CommandSource :=
  match reportedPhase x c with
  | .follow => .normal
  | .dump => .forced { dir := .release, duty := 100 }
  | .hold => .forced holdCommand
  | .reapply => .reapply

/-! ### Returns to FOLLOW (R109) -/

/-- The channels of the groups chosen return to FOLLOW (R109, R110, R112). -/
def Slip.followGroups (x : Slip) (chosen : Fin 5 → Bool) : Slip :=
  { x with
    group := mapAll x.group fun g v => if chosen g then followGroup else v
    reapply := mapAll x.reapply fun c v => if chosen (groupOf c) then 0 else v }

/-- SENSOR_SUSPECT set on a channel: it returns to FOLLOW; a tag channel leaves the pair, which stands in FOLLOW when no
channel is left in it (R108, R111). Where the other stands alone but is already cleared, R108 gives no record for the pair:
DESIGN CHOICE, log entry 32. -/
def Slip.suspectSet (x : Slip) (c : Channel) : Slip :=
  let y := { x with
    tlJoined := x.tlJoined && c != 4
    trJoined := x.trJoined && c != 5
    reapply := put x.reapply c 0 }
  { y with group := if c.val < 4 || (!y.tlJoined && !y.trJoined) then put y.group (groupOf c) followGroup else y.group }

end Sys2Proof.Machine
end

