-- ==== Sys2Proof/Machine/Broadcast.lean ====
section
/-!
DEFINITION. The status broadcaster (R194, R195).
-/

namespace Sys2Proof.Machine

/-- The page after a page (R50). -/
def nextPage (page : Fin 2) : Fin 2 := page + 1

/-- The port with the three status frames of a formation placed (R195). -/
def placeFrames (s : State) : Port :=
  ((s.port.placeStatus 0 (statusA s)).placeStatus 1 (statusB s (nextPage s.status.lastPage))).placeStatus 2 (statusC s)

/-- A formation: the three frames are built and placed, the page advances, and HOLD_OVERRIDE is cleared (R195). -/
def formStatus (s : State) : State :=
  { s with
    port := placeFrames s
    status := { s.status with lastPage := nextPage s.status.lastPage }
    override := { s.override with flag := false } }

/-- The status period of the standstill state standing (R194). -/
def statusPeriod (st : Standstill) : Nat := if st = .secured then msec 1000 else msec 100

end Sys2Proof.Machine
end

