-- ==== Sys2Proof/Machine/Standstill.lean ====
section
/-!
DEFINITION. The standstill coordinator outside securing (chapter 9): states, home slots 3 and 4, the creep detector,
stop hold, promotion, drive-off, the withheld release, and the rolling record.
-/

namespace Sys2Proof.Machine

/-! ### States -/

/-- The coordinator's record at a change of state: outside RUN no settle timer and not settled, outside STOP_HOLD no
dwell timer, and leaving RUN closes the release watch (R169, R172 to R174, R179, R183). -/
def Coordinator.enter (k : Coordinator) (st : Standstill) : Coordinator :=
  { k with
    state := st
    settleTimer := if st = .run then k.settleTimer else none
    settled := st = .run && k.settled
    dwellTimer := if st = .stopHold then k.dwellTimer else none
    watchOpen := k.watchOpen && !(k.state = .run && st != .run)
    withheldTimer := if k.state = .run && st != .run then none else k.withheldTimer }

/-- A change of the standstill state; an exercise ends when the state leaves AUTO_PARK (R148, R166). -/
def setStandstill (s : State) (st : Standstill) : State :=
  let t := if s.coord.state = .autoPark && st != .autoPark then endExercise s .leftAutoPark else s
  { t with coord := t.coord.enter st }

/-! ### Creep detector (R168) -/

/-- The detector's window starts. -/
def Coordinator.window (k : Coordinator) (expiry vref : Nat) : Coordinator :=
  { k with quietTimer := some expiry, edges := Vector.replicate 6 0, armed := vref = 0 }

/-- The detector's window starts now (R168). -/
def startWindow (s : State) : State :=
  { s with coord := s.coord.window (s.clock.us + sec s.settings.params.quietWindow) s.vref }

/-- The detector stops (R168). -/
def Coordinator.stopWindow (k : Coordinator) : Coordinator := { k with quietTimer := none }

/-! ### Slots 3 and 4 -/

/-- Slot 3 is posted with a value, clamped to hold_min and hold_max (R167, R170). -/
def postSlot3 (s : State) (v : Nat) : State :=
  { s with
    table := homePost s.table 3 19
      (holdFields (clampTo v s.settings.params.holdMin s.settings.params.holdMax)) s.clock.ms }

/-- The value of slot 3 rises by the creep step, capped at hold_max (R171, R177). -/
def raiseSlot3 (s : State) : State :=
  { s with
    table := homeValue s.table 3
      (min s.settings.params.holdMax (slotValue s.table 3 + s.settings.params.creepStep)) }

/-- Slot 3 is released if it stands ACTIVE (R175, R178). -/
def releaseSlot3 (s : State) : State :=
  { s with table := if slotIs s.table 3 .active then homeRelease s.table 3 else s.table }

/-- Slot 4 is posted (R173, R174, R179, R183, R189). -/
def postSlot4 (s : State) : State := putTable s (homePost s.table 4 19 parkFields s.clock.ms)

/-- In AUTO_PARK slot 3 is handed over to the springs when the park valve stands APPLIED (R175). -/
def handover (s : State) : State :=
  if s.coord.state = .autoPark && s.park.state = .applied then releaseSlot3 s else s

/-- A promotion: slot 4 is posted and the state becomes AUTO_PARK (R173 to R175). -/
def promote (s : State) : State := handover (postSlot4 (setStandstill s .autoPark))

/-! ### RUN and STOP_HOLD -/

/-- The record at entry to RUN: detector stopped, settle timer started at v_ref 0, ROLLING_SECURED cleared
(R168, R169, R172, R178). -/
def Coordinator.startRun (k : Coordinator) (settleExpiry vref : Nat) : Coordinator :=
  { (k.enter .run).stopWindow with
    settleTimer := if vref = 0 then some settleExpiry else none
    settled := false
    rollingSecured := false }

/-- Entry to RUN. -/
def enterRun (s : State) : State :=
  let t := if s.coord.state = .autoPark then endExercise s .leftAutoPark else s
  { t with coord := t.coord.startRun (s.clock.us + msec s.settings.params.settleTime) s.vref }

/-- The stop-hold conditions (R170). -/
def stopHoldConditions (s : State) : Bool :=
  s.coord.state = .run && s.coord.settled && s.settings.params.holdMin ≤ drivePressure s
    && s.settings.params.autoHold && s.circuit[0].mode = .electronic && s.circuit[1].mode = .electronic
    && !s.lines.drive

/-- Entry to STOP_HOLD: slot 3 posted with the drive pressure, the dwell timer and the window started (R170). -/
def enterStopHold (s : State) : State :=
  let t := setStandstill (postSlot3 s (drivePressure s)) .stopHold
  startWindow { t with coord := { t.coord with
    dwellTimer := some (s.clock.us + sec s.settings.params.promoteDelay) } }

/-- An evaluation of the stop-hold conditions (R169, R170). -/
def evalStopHold (s : State) : State := if stopHoldConditions s then enterStopHold s else s

/-- The return from STOP_HOLD to RUN when its conditions hold (R172). -/
def evalReturn (s : State) : State :=
  if s.coord.state = .stopHold && moveOffAsked s then enterRun (releaseSlot3 s) else s

/-- The dwell timer expires in STOP_HOLD: promotion is allowed, or refused and counted (R173). -/
def considerPromotion (s : State) : State :=
  if s.settings.params.releaseReserve ≤ supply s.sampling 1
      && s.coord.springCycles.length < s.settings.params.cycleBudget then promote s
  else
    { s with coord := { s.coord with
        promotionRefused := min 255 (s.coord.promotionRefused + 1)
        dwellTimer := some (s.clock.us + sec s.settings.params.promoteDelay) } }

/-! ### Drive-off -/

/-- The drive-off conditions (R178). -/
def driveOffConditions (s : State) : Bool :=
  (s.coord.state = .autoPark || s.coord.state = .creepHold) && moveOffAsked s && s.vref = 0

/-- The removal of slot 4 ends park wanted (R178, R179). -/
def endsPark (s : State) : Bool := anyPark s.table && !anyPark (homeRelease s.table 4)

/-- The drive-off: slot 3 released, RUN entered, the release watch opened where park wanted ends, and slot 4 removed,
at which the park valve evaluates release (R178, R179). -/
def driveOff (s : State) : State :=
  let t := enterRun (releaseSlot3 s)
  let u := { t with coord := { t.coord with watchOpen := endsPark t } }
  putTable u (homeRelease u.table 4)

/-- An evaluation of the drive-off conditions (R178). -/
def evalDriveOff (s : State) : State := if driveOffConditions s then driveOff s else s

/-- The withheld-release timer expires: the drive-off is undone (R179). -/
def undoDriveOff (s : State) : State :=
  let t := startWindow (postSlot4 (setStandstill s .autoPark))
  handover { t with coord := { t.coord with airLow := true, watchOpen := false, withheldTimer := none } }

/-! ### Events of the coordinator -/

/-- A creep is found: the standing state acts, and a new window starts (R168, R171, R176, R177). -/
def creepFound (s : State) : State :=
  startWindow (match s.coord.state with
    | .stopHold => if slotValue s.table 3 < s.settings.params.holdMax then raiseSlot3 s else promote s
    | .creepHold => if slotValue s.table 3 < s.settings.params.holdMax then raiseSlot3 s else reapply s
    | .autoPark =>
        let v := clampTo s.settings.params.creepHold s.settings.params.holdMin s.settings.params.holdMax
        setStandstill (postSlot3 s (if slotIs s.table 3 .active then max (slotValue s.table 3) v else v)) .creepHold
    | .run => s
    | .securing => s
    | .secured => s)

/-- The detector takes an edge (R168). -/
def creepEdge (s : State) (c : Channel) : State :=
  if !s.coord.armed then s
  else if 1 ≤ s.coord.edges[c] then creepFound s
  else { s with coord := { s.coord with edges := put s.coord.edges c (s.coord.edges[c] + 1) } }

/-- The bus is found rolling in SECURED (R187). -/
def rollingFound (s : State) : State :=
  let t := reapply s
  formStatus { t with coord := { t.coord with rollingSecured := true, rolling := Vector.replicate 6 [] } }

/-- The rolling record takes an edge: times more than 2000 ms old leave, and a fourth within 2000 ms is rolling
(R187). The times are of the model's own µs, so the 2000 ms are judged to the µs: DESIGN CHOICE, log entry 31. -/
def rollingEdge (s : State) (c : Channel) : State :=
  let kept := s.coord.rolling[c].filter fun t => s.clock.us ≤ t + msec 2000
  if 3 ≤ kept.length then rollingFound s
  else { s with coord := { s.coord with rolling := put s.coord.rolling c (kept ++ [s.clock.us]) } }

/-- A tooth edge at the coordinator (R168, R187). -/
def coordinatorEdge (s : State) (c : Channel) : State :=
  match s.coord.state with
  | .stopHold => creepEdge s c
  | .autoPark => creepEdge s c
  | .creepHold => creepEdge s c
  | .secured => rollingEdge s c
  | .run => s
  | .securing => s

/-- The quiet-window timer expires: CREEP_HOLD returns to AUTO_PARK, and a new window starts (R168, R175, R177). -/
def quietExpired (s : State) : State :=
  if s.coord.state = .creepHold then startWindow (handover (setStandstill s .autoPark)) else startWindow s

/-- The coordinator at a change of circuit modes: `left` says that a circuit left ELECTRONIC (R169, R174). -/
def coordinatorModes (s : State) (left : Bool) : State :=
  if s.coord.state = .stopHold && left then promote s else evalStopHold s

/-- The coordinator at a drive-scan completion (R169, R172, R178). -/
def coordinatorScan (s : State) : State :=
  match s.coord.state with
  | .run => evalStopHold s
  | .stopHold => evalReturn s
  | .autoPark => evalDriveOff s
  | .creepHold => evalDriveOff s
  | .securing => s
  | .secured => s

/-- The coordinator at a change of the drive-request line (R169, R172, R178). -/
def coordinatorDrive (s : State) : State :=
  if s.lines.drive then evalDriveOff (evalReturn s) else evalStopHold s

end Sys2Proof.Machine
end

