-- ==== Sys2Proof/Machine/Circuits.lean ====
section
/-!
DEFINITION. The circuit supervisor (R150 to R155) and the trip unit (R156 to R163).
-/

namespace Sys2Proof.Machine

/-! ### Modes -/

/-- The mode a circuit takes from its cause set; RESTING does not follow it (R150). -/
def decideMode (m : Mode) (k : Causes) : Mode :=
  if m = .resting then .resting else if k.isEmpty then .electronic else .fallback

/-- The circuit leaves ELECTRONIC with a new mode. -/
def goesOut (old new : Mode) : Bool := old = .electronic && new != .electronic

/-- The circuit returns to ELECTRONIC with a new mode. -/
def comesBack (old new : Mode) : Bool := old != .electronic && new = .electronic

/-- A channel of a circuit whose mode changes, at the valve drive: HOLD is written and the outputs are cut where the
circuit leaves ELECTRONIC (R86, R134). -/
def ChannelDrive.leave (d : ChannelDrive) (now : Nat) : ChannelDrive := { d.cut now with buffer := holdCommand }

/-- The exercised channel's circuit leaves ELECTRONIC (R148). -/
def exerciseLeft (s : State) (left : CircuitId → Bool) : Bool :=
  match s.exercise.channel with
  | some c => left (circuitOf c)
  | none => false

/-- The readers of the circuit modes that own per-channel state: modes written, outputs cut and buffers at HOLD on the
circuits left, targets re-seeded on the circuits returned, slip phases at FOLLOW on the circuits left
(R86, R87, R112, R134). -/
def writeModes (s : State) (mode : CircuitId → Mode) : State :=
  { s with
    circuit := mapAll s.circuit fun k r => { r with mode := mode k }
    alloc :=
      { s.alloc with
        target := mapAll s.alloc.target fun c v =>
          if comesBack s.circuit[circuitOf c].mode (mode (circuitOf c)) then
            min (measured s.sampling c) (s.settings.params.pmax (axleOf c))
          else v }
    slip := s.slip.followGroups fun g => goesOut s.circuit[groupCircuit g].mode (mode (groupCircuit g))
    valve :=
      { s.valve with
        chan := mapAll s.valve.chan fun c d =>
          if goesOut s.circuit[circuitOf c].mode (mode (circuitOf c)) then d.leave s.clock.us else d } }

/-- New circuit modes, handed to their readers at this event (R151, R152). -/
def applyModes (s : State) (mode : CircuitId → Mode) : State :=
  let left : CircuitId → Bool := fun k => goesOut s.circuit[k].mode (mode k)
  let changed := s.circuit[0].mode != mode 0 || s.circuit[1].mode != mode 1
  if !changed then s
  else
    let t := writeModes s mode
    let u := if exerciseLeft s left then endExercise t .circuitFallback else t
    let v := if s.circuit[1].mode != mode 1 then reevaluateRelease u else u
    coordinatorModes v (left 0 || left 1)

/-- The supervisor decides the modes once, from the cause sets after every change of the event (R151). -/
def settleModes (s : State) : State :=
  applyModes s fun k => decideMode s.circuit[k].mode s.circuit[k].causes

/-! ### Trip unit -/

/-- TRIP joins both cause sets (R161). -/
def addTrip (v : Vector Circuit 2) : Vector Circuit 2 :=
  mapAll v fun _ r => { r with causes := { r.causes with trip := true } }

/-- TRIP leaves both cause sets (R163). -/
def removeTrip (v : Vector Circuit 2) : Vector Circuit 2 :=
  mapAll v fun _ r => { r with causes := { r.causes with trip := false } }

/-- The trip: TRIPPED with the risen sources latched, TRIP in both cause sets, every modulator output cut, a running
exercise ended (R134, R148, R161). The modes are decided by settleModes at the same event. -/
def enterTrip (s : State) (risen : TripSet) : State :=
  endExercise
    { s with
      trip := { s.trip with tripped := true, latched := s.trip.latched.either risen }
      circuit := addTrip s.circuit
      valve := { s.valve with chan := mapAll s.valve.chan fun _ d => d.cut s.clock.us } }
    .tripped

/-- Enabled sources rise (R161); an empty set of them changes nothing. -/
def rise (s : State) (risen : TripSet) : State :=
  if !risen.nonempty then s
  else if s.trip.tripped then { s with trip := { s.trip with latched := s.trip.latched.either risen } }
  else enterTrip s risen

/-- The active items take new values, and the sources that become active while enabled rise (R156). -/
def setActive (s : State) (active : TripSet) : State :=
  rise { s with trip := { s.trip with active := active } }
    ((active.minus s.trip.active).enabled s.settings.params)

/-- A latched source is active and enabled, so that a CLEAR_TRIP is refused (R163). -/
def clearBlocked (s : State) : Bool :=
  ((s.trip.latched.both s.trip.active).enabled s.settings.params).nonempty

/-- The accepted clear of a trip (R163). -/
def clearTrip (s : State) : State :=
  settleModes { s with trip := { s.trip with tripped := false, latched := TripSet.none }, circuit := removeTrip s.circuit }

/-! ### Causes at a drive-scan completion (R129, R130, R154, R155) -/

/-- Every conversion of an input in the completing scan was valid (R118). -/
def allValid (g : Sampling) (i : Fin 12) : Bool := g.inputs[i].allValid = some true

/-- Every channel pressure of a circuit was valid throughout the scan (R129). -/
def pressuresValid (g : Sampling) (k : CircuitId) : Bool :=
  (List.finRange 6).all fun c => circuitOf c != k || allValid g (c.castLE (by decide : 6 ≤ 12))

/-- The supply of a circuit was valid throughout the scan (R130). -/
def supplyValid (g : Sampling) (k : CircuitId) : Bool := if k = 0 then allValid g 6 else allValid g 7

/-- The run of a validity cause after a completion (R129, R130). -/
def validRun (present valid : Bool) (run : Nat) : Nat :=
  if !valid then 0 else if present then (if run + 1 < 10 then run + 1 else 0) else 0

/-- A validity cause after a completion: the tenth consecutive valid completion removes it (R129, R130). -/
def validCause (present valid : Bool) (run : Nat) : Bool := !valid || (present && run + 1 < 10)

/-- A circuit after a drive-scan completion; the pedal run is that before the completion (R58, R129, R130, R154). -/
def Circuit.completed (r : Circuit) (pressures supply lost : Bool) (pedalRun : Nat) : Circuit :=
  { r with
    causes :=
      { r.causes with
        starting := r.causes.starting && !(pressures && supply)
        pressureInvalid := validCause r.causes.pressureInvalid pressures r.pressureRun
        supplyInvalid := validCause r.causes.supplyInvalid supply r.supplyRun
        pedalLost := validCause r.causes.pedalLost (!lost) pedalRun }
    pressureRun := validRun r.causes.pressureInvalid pressures r.pressureRun
    supplyRun := validRun r.causes.supplyInvalid supply r.supplyRun }

/-- The supervisor takes a drive-scan completion; `g` is the sampling unit with the current-scan items of the completing
scan, and the pedal record is the one after it (R155). -/
def supervise (s : State) (g : Sampling) : State :=
  { s with
    circuit := mapAll s.circuit fun k r => r.completed (pressuresValid g k) (supplyValid g k) s.pedal.lost s.pedalRun
    pedalRun := validRun s.circuit[0].causes.pedalLost (!s.pedal.lost) s.pedalRun }

end Sys2Proof.Machine
end

