-- ==== Sys2Proof/Machine/Securing.lean ====
section
/-!
DEFINITION. Securing (R182 to R185), the cab sources at a match of their home slots (R54, R61, R63), and the park
valve's report of APPLIED.
-/

namespace Sys2Proof.Machine

/-! ### Scan in flight -/

/-- An input whose current-scan items become absent (R118). -/
def InputItems.dropCurrent (x : InputItems) : InputItems :=
  { x with current := none, currentValid := none, allValid := none }

/-- The scan in flight ends without completing: its current-scan items become absent and the state is IDLE
(R118, R123, R125, R127). -/
def Sampling.abort (g : Sampling) : Sampling :=
  { g with scan := none, inputs := mapAll g.inputs fun _ x => x.dropCurrent }

/-- The sampling unit leaves drive scan for watch scan (R123). -/
def Sampling.enterWatch (g : Sampling) (expiry : Nat) : Sampling :=
  { g.abort with watchMode := true, trigger := none, watchTimer := some expiry }

/-! ### Completion of securing -/

/-- The trip unit at the completion of securing: the stall timer stops and SCAN_STALL becomes inactive (R160). -/
def TripUnit.rest (u : TripUnit) : TripUnit := { u with stallTimer := none, active := { u.active with scanStall := false } }

/-- Securing completes: SECURED, purge, circuits RESTING, watch scan, stall timer stopped, 1000 ms status period,
rolling record emptied (R184). -/
def completeSecuring (s : State) : State :=
  let t := setStandstill s .secured
  applyModes
    { t with
      coord := { t.coord with rolling := Vector.replicate 6 [] }
      table := purge t.table
      sampling := t.sampling.enterWatch (t.clock.us + msec 1000)
      trip := t.trip.rest
      status := { t.status with timer := t.clock.us + msec 1000 } }
    fun _ => .resting

/-- The coordinator's record at entry to SECURING (R183). -/
def Coordinator.secure (k : Coordinator) : Coordinator :=
  { (k.enter .securing).closeWatch.stopWindow with ignitionOffPending := false }

/-- Entry to SECURING: slots 3 and 4 posted, timers discarded, DOOR_OPEN_MOVING cleared (R62, R183). -/
def beginSecuring (s : State) : State :=
  let t := if s.coord.state = .autoPark then endExercise s .leftAutoPark else s
  let u := postSlot3 { t with coord := t.coord.secure, doorOpenMoving := false } s.settings.params.holdMax
  if u.table[4].isNone then postSlot4 u else u

/-- SECURING is entered, and securing completes at the same event when the park valve stands APPLIED (R183). -/
def enterSecuring (s : State) : State :=
  let t := beginSecuring s
  if t.park.state = .applied then completeSecuring t else t

/-- The park valve reports APPLIED: in SECURING securing completes, in AUTO_PARK slot 3 is handed over (R175, R183). -/
def reportApplied (s : State) : State := if s.coord.state = .securing then completeSecuring s else handover s

/-! ### Cab sources -/

/-- The DOOR hold posted into slot 1 (R61). -/
def postDoor (s : State) : State :=
  { s with
    table := homePost s.table 1 17 (doorFields s.settings.params.doorHold s.settings.params.holdMax) s.clock.ms }

/-- The DOOR hold released (R61). -/
def releaseDoor (s : State) : State := { s with table := homeRelease s.table 1 }

/-- The PARK SWITCH entry posted into slot 2 (R63). -/
def postSwitch (s : State) : State := putTable s (homePost s.table 2 18 parkFields s.clock.ms)

/-- The PARK SWITCH entry released, which removes it (R63). -/
def releaseSwitch (s : State) : State := putTable s (homeRelease s.table 2)

/-- The DOOR source makes slot 1 match the debounced door state (R54). -/
def matchDoor (s : State) : State :=
  if s.door.state then (if s.table[1].isNone || slotIs s.table 1 .retiring then postDoor s else s)
  else if slotIs s.table 1 .active then releaseDoor s
  else s

/-- The PARK SWITCH source makes slot 2 match the debounced switch state (R54). -/
def matchSwitch (s : State) : State :=
  if s.parkSwitch.state then (if s.table[2].isNone then postSwitch s else s)
  else if s.table[2].isSome then releaseSwitch s
  else s

/-- DOOR_OPEN_MOVING is evaluated anew (R62). -/
def evalDoorMoving (s : State) : State := { s with doorOpenMoving := doorMoving s }

/-- Ignition on in SECURING: the state returns to AUTO_PARK with the entries as they stand, the cab sources take up their
lines, and slot 3 is handed over (R54, R62, R185). -/
def returnFromSecuring (s : State) : State :=
  handover (startWindow (evalDoorMoving (matchSwitch (matchDoor (setStandstill s .autoPark)))))

end Sys2Proof.Machine
end

