-- ==== Sys2Proof/Machine/Speed.lean ====
section
/-!
DEFINITION. Wheel speeds, the reference speed and its readers, and the suspect timers (R89 to R97), with the
hold-override condition (R21).
-/

namespace Sys2Proof.Machine

/-! ### Hold override (R21) -/

/-- The override condition (R21). -/
def overrideCondition (s : State) : Bool := moveOffAsked s && s.vref = 0

/-- An evaluation of the override condition: the timer starts when it begins to hold while armed, and is discarded when
it ceases to hold (R21). -/
def HoldOverride.evaluate (o : HoldOverride) (holds : Bool) (expiry : Nat) : HoldOverride :=
  { o with
    timer := if holds then (if o.timer.isSome then o.timer else if o.armed then some expiry else none) else none }

/-- The condition is evaluated now (R21). -/
def evalOverride (s : State) : State :=
  { s with override := s.override.evaluate (overrideCondition s) (s.clock.us + msec 3000) }

/-! ### Readers of a change of v_ref (R94) -/

/-- The settle timer at a change of v_ref in RUN (R169). -/
def Coordinator.settle (k : Coordinator) (expiry old new : Nat) : Coordinator :=
  if k.state = .run then
    { k with settleTimer := if new = 0 then some expiry else if old = 0 then none else k.settleTimer
             settled := k.settled && new = 0 }
  else k

/-- The coordinator at a change of v_ref from an old value: a pending ignition-off at standstill enters SECURING, else
the settle timer and the drive-off conditions follow (R169, R178, R182; log entry 13). -/
def coordinatorSpeed (s : State) (old : Nat) : State :=
  if s.coord.ignitionOffPending && s.vref = 0 && !securingOrSecured s then enterSecuring s
  else
    evalDriveOff { s with coord := s.coord.settle (s.clock.us + msec s.settings.params.settleTime) old s.vref }

/-- An exercise ends when v_ref rises above 0 (R148). -/
def exerciseSpeed (s : State) : State := if 0 < s.vref then endExercise s .vehicleMoving else s

/-- Every channel returns to FOLLOW when v_ref falls below 50 (R110). -/
def slipSpeed (s : State) (old : Nat) : State :=
  { s with slip := if 50 ≤ old && s.vref < 50 then s.slip.followGroups fun _ => true else s.slip }

/-- v_ref takes a value; a change is handed to its readers (R94; order: log entry 13). -/
def setReference (s : State) (v : Nat) : State :=
  if v = s.vref then s
  else
    coordinatorSpeed (slipSpeed (exerciseSpeed (evalOverride (evalDoorMoving { s with vref := v }))) s.vref) s.vref

/-! ### Suspect timers (R95, R96) -/

/-- The set condition of a channel (R95). -/
def Wheel.setCondition (w : Wheel) (vref : Nat) : Bool := w.speed = 0 && 150 ≤ vref && !w.suspect

/-- The clear condition of a channel (R96). -/
def Wheel.clearCondition (w : Wheel) (vref : Nat) : Bool :=
  w.suspect && 0 < w.speed && (w.speed - vref ≤ vref / 5 && vref - w.speed ≤ vref / 5)

/-- A timer that runs while a condition holds. -/
def runWhile (holds : Bool) (timer : Option Nat) (expiry : Nat) : Option Nat :=
  if holds then (if timer.isSome then timer else some expiry) else none

/-- The suspect timers of a channel after an evaluation of both conditions (R95, R96). -/
def Wheel.evaluate (w : Wheel) (vref now : Nat) : Wheel :=
  { w with
    setTimer := runWhile (w.setCondition vref) w.setTimer (now + msec 2000)
    clearTimer := runWhile (w.clearCondition vref) w.clearTimer (now + msec 1000) }

/-- Both conditions are evaluated on every channel (R95, R96). -/
def evalSuspects (s : State) : State := { s with wheel := mapAll s.wheel fun _ w => w.evaluate s.vref s.clock.us }

/-- A channel's record changes; v_ref is recomputed and the suspect conditions evaluated (R94 to R96). -/
def setWheel (s : State) (c : Channel) (w : Wheel) : State :=
  let t := { s with wheel := put s.wheel c w }
  evalSuspects (setReference t (referenceSpeed t.wheel))

/-- A channel's record at a tooth edge (R90). -/
def Wheel.edge (w : Wheel) (capture : Capture) (circumference teeth : Nat) : Wheel :=
  match w.lastCapture with
  | some last =>
      { w with lastCapture := some capture, toothTimer := some (capture + 200000#24)
               interval := some (capture - last).toNat
               speed := speedOf circumference teeth (capture - last).toNat }
  | none => { w with lastCapture := some capture, toothTimer := some (capture + 200000#24) }

/-- A channel's record at the tooth timeout (R91). -/
def Wheel.timeout (w : Wheel) : Wheel :=
  { w with lastCapture := none, interval := none, toothTimer := none, speed := 0 }

/-- The tooth timer is due on the capture counter (R91; log entry 20). -/
def Wheel.toothDue (w : Wheel) (capture : Capture) : Bool :=
  match w.toothTimer with
  | some t => (capture - t).toNat < 8388608
  | none => false

end Sys2Proof.Machine
end

