-- ==== Sys2Proof/Machine/Sampling.lean ====
section
/-!
DEFINITION. The sampling unit (chapter 6): scans, conversions, deliveries and drive-scan completions, with the PEDAL
source (R55 to R59).
-/

namespace Sys2Proof.Machine

/-! ### Scans -/

/-- The first record from a number on that the scan of the mode converts: every record of the list in drive scan, the
flagged ones in watch scan (R120, R124). -/
def Sampling.nextRecord (g : Sampling) (start : Nat) : Option (Fin 16) :=
  (List.finRange 16).find? fun i => start ≤ i.val && i.val < g.length && (!g.watchMode || g.records[i].watch)

/-- A scan starts with its first point; one that converts nothing is complete at once (R117, R120, R124). -/
def Sampling.start (g : Sampling) (now : Nat) : Sampling :=
  { g with scan := (g.nextRecord 0).map fun r => { record := r, stop := now + 125 } }

/-- Drive scan is entered: a scan starts and the trigger timer is started (R120, R125). -/
def Sampling.enterDrive (g : Sampling) (now : Nat) : Sampling :=
  { ({ g.abort with watchMode := false, watchTimer := none } : Sampling).start now with trigger := some (now + msec 2) }

/-- A rewrite: the scan in flight is aborted and a new one starts from record 0 (R127). -/
def Sampling.rewrite (g : Sampling) (now : Nat) : Sampling := g.abort.start now

/-- The items of an input after a conversion (R118). -/
def InputItems.record (x : InputItems) (r : ConvResult) : InputItems :=
  { x with
    current := some r
    currentValid := r.value <|> x.currentValid
    allValid := some (x.allValid != some false && r.value.isSome) }

/-- The items of an input when a scan completes (R118). -/
def InputItems.complete (x : InputItems) : InputItems :=
  { standing := x.current <|> x.standing, standingValid := x.currentValid <|> x.standingValid, current := none,
    currentValid := none, allValid := none }

/-- A scan completes: the current-scan items become standing and the state is IDLE (R118, R120, R124). -/
def Sampling.complete (g : Sampling) : Sampling :=
  { g with scan := none, inputs := mapAll g.inputs fun _ x => x.complete }

/-- A window status is formed for the point: in drive scan for channel pressures and the supply voltage, in watch scan
for every point (R122, R124). -/
def judged (watchMode : Bool) (input : Fin 12) : Bool := watchMode || input.val < 6 || input = 11

/-- The result of a conversion of a record (R116, R117, R122). -/
def convResult (g : Sampling) (p : Params) (r : PointRecord) (raw : BitVec 12) : ConvResult :=
  { value := convert r.input raw
    window := if judged g.watchMode r.input then
        (convert r.input raw).map fun v => windowStatus v r.lowEdge (r.highEdge p)
      else none }

/-! ### PEDAL source -/

/-- The determined travel (R56). -/
def determined : Option Nat → Option Nat → Option Nat
  | some a, some b => some (max a b)
  | some a, none => some a
  | none, some b => some b
  | none, none => none

/-- Both travels are valid and apart by more than 60 (R57). -/
def disagrees : Option Nat → Option Nat → Bool
  | some a, some b => 60 < max a b - min a b
  | _, _ => false

/-- Both travels are valid and within 60 (R57). -/
def agrees : Option Nat → Option Nat → Bool
  | some a, some b => max a b - min a b ≤ 60
  | _, _ => false

/-- The pair record after a completion with the two travels (R55 to R57). -/
def PedalRecord.update (r : PedalRecord) (a b : Option Nat) : PedalRecord :=
  let disagreeRun := if disagrees a b then min 3 (r.disagreeRun + 1) else 0
  let agreeRun := if agrees a b && r.disagree then r.agreeRun + 1 else 0
  { travel := determined a b
    disagreeRun := disagreeRun
    agreeRun := if 10 ≤ agreeRun then 0 else agreeRun
    disagree := (r.disagree || (disagrees a b && disagreeRun = 3)) && agreeRun < 10
    single := a.isSome != b.isSome
    lost := a.isNone && b.isNone }

/-- Travel A and travel B from the latest results of the pedals; an absent or INVALID result is no travel (R55; log
entry 19). -/
def travelA (g : Sampling) : Option Nat := g.inputs[9].latest.bind ConvResult.value
/-- Travel B is 1000 minus the value of pedal B (R55). -/
def travelB (g : Sampling) : Option Nat := (g.inputs[10].latest.bind ConvResult.value).map fun v => 1000 - v

/-- The demanded deceleration D of a travel (R59). -/
def demandOf : Option Nat → Nat
  | some t => if t ≤ 50 then 0 else min 800 (((t - 50) * 800 + 475) / 950)
  | none => 0

/-- The PEDAL source at a drive-scan completion (R55 to R59). -/
def pedalScan (s : State) : State :=
  let r := s.pedal.update (travelA s.sampling) (travelB s.sampling)
  { s with pedal := r, table := homeValue s.table 0 (demandOf r.travel) }

/-! ### Trip unit at completions and conversions -/

/-- The undervolt run after a completion (R158). -/
def undervoltRun (run : Nat) (latest : Option ConvResult) : Nat :=
  if latest.bind ConvResult.window = some .below then min 3 (run + 1) else 0

/-- The trip unit at a drive-scan completion: UNDERVOLT, and SCAN_STALL inactive with the stall timer restarted
(R158, R160). -/
def tripScan (s : State) : State :=
  let run := undervoltRun s.trip.undervoltRun s.sampling.inputs[11].latest
  setActive
    { s with trip := { s.trip with undervoltRun := run, stallTimer := some (s.clock.us + msec 6) } }
    { s.trip.active with undervolt := run = 3, scanStall := false }

/-- The overpressure count of a channel after a conversion of its pressure (R159). -/
def overpressureCount (count : Nat) (isElectronic : Bool) (window : Option WindowStatus) : Nat :=
  if !isElectronic then 0
  else if window = some .above then min 5 (count + 1)
  else 0

/-- The trip unit at a conversion of a channel pressure (R159). -/
def overpressureConversion (s : State) (c : Channel) (r : ConvResult) : State :=
  let counts := put s.trip.overpressure c (overpressureCount s.trip.overpressure[c] (electronic s c) r.window)
  setActive { s with trip := { s.trip with overpressure := counts } }
    { s.trip.active with overpressure := (List.finRange 6).any fun k => counts[k] = 5 }

/-! ### Park valve at a park-chamber conversion -/

/-- An apply attempt is confirmed: APPLIED, reported to the coordinator; release is evaluated when park is not wanted
(R139, R140, R142). -/
def confirmApplied (s : State) : State :=
  let t := reportApplied { s with park :=
    { s.park with state := .applied, step := none, confirmTimer := none, pulses := 0, fault := false } }
  if t.park.wanted then t else evaluateRelease t

/-- A release attempt is confirmed: RELEASED, at which an open release watch closes (R141, R179). -/
def confirmReleased (s : State) : State :=
  { s with
    park := { s.park with state := .released, step := none, confirmTimer := none, fault := false }
    coord := s.coord.closeWatch }

/-- A park-chamber conversion at the park valve (R139, R141). -/
def parkConversion (s : State) (r : ConvResult) : State :=
  match r.value with
  | none => s
  | some v =>
    if s.park.step != some .confirm then s
    else if s.park.state = .applying && v < 50 then confirmApplied s
    else if s.park.state = .releasing && 550 < v then confirmReleased s
    else s

/-! ### Conversion completion -/

/-- The delivery of a conversion to the readers that act on each (R119). -/
def deliver (s : State) (input : Fin 12) (r : ConvResult) : State :=
  if h : input.val < 6 then overpressureConversion s ⟨input.val, h⟩ r
  else if input = 7 then reevaluateRelease s
  else if input = 8 then parkConversion s r
  else s

/-- A watch event at the coordinator: the park chamber ABOVE asks for a reapply, any other for prompt status frames
(R124, R186). `watching` says that the conversion is of a watch scan. -/
def watchEvent (s : State) (watching : Bool) (input : Fin 12) (r : ConvResult) : State :=
  if !(s.coord.state = .secured && watching) || r.window = some .inside then s
  else if input = 8 && r.window = some .above then reapply s
  else formStatus s

/-- The blocks that act on a drive-scan completion, in the order of log entry 12; `g` is the sampling unit before the
completion made its results standing. The modes are decided after it (R120, R155). -/
def driveScanComplete (s : State) (g : Sampling) : State := tripScan (supervise (pedalScan s) g)

/-- The next conversion starts, or the scan completes; the second item says whether a drive scan completed
(R117, R120, R124). -/
def advanceScan (s : State) (r : Fin 16) : State × Bool :=
  match s.sampling.nextRecord (r.val + 1) with
  | some n => ({ s with sampling := { s.sampling with scan := some { record := n, stop := s.clock.us + 125 } } }, false)
  | none =>
      let t := { s with sampling := s.sampling.complete }
      if s.sampling.watchMode then (t, false) else (driveScanComplete t s.sampling, true)

/-- The conversion of a record completes with its result: recorded, delivered, a watch event raised, and the scan goes
on unless the delivery ended it (R117 to R119, R123; log entry 17). -/
def takeConversion (s : State) (record : Fin 16) (r : ConvResult) : State :=
  let input := s.sampling.records[record].input
  let t := { s with sampling := { s.sampling with inputs := alter s.sampling.inputs input fun x => x.record r } }
  let u := watchEvent (deliver t input r) s.sampling.watchMode input r
  if u.sampling.scan.isNone then settleModes u
  else
    let v := advanceScan u record
    if v.2 then coordinatorScan (evalOverride (settleModes v.1)) else settleModes v.1

end Sys2Proof.Machine
end

