-- ==== Sys2Proof/Machine/Start.lean ====
section
/-!
DEFINITION. Cold start (R25 and the cold-start rule of each chapter) and wake (R26, R188).
-/

namespace Sys2Proof.Machine

/-! ### Shared by cold start and wake -/

/-- A debounced line read as it stands (R53). -/
def Debounced.reread (d : Debounced) : Debounced := { d with state := d.raw, timer := none }

/-- The pair record after cold start and wake (R55). -/
def freshPedal : PedalRecord :=
  { travel := none, disagreeRun := 0, agreeRun := 0, disagree := false, single := false, lost := false }

/-- The hold override after cold start and wake (R21, R25, R26). -/
def freshOverride : HoldOverride := { timer := none, armed := true, flag := false }

/-- A circuit after cold start or wake: FALLBACK with STARTING, and TRIP while TRIPPED (R150). -/
def freshCircuit (tripped : Bool) : Circuit :=
  { mode := .fallback
    causes := { starting := true, trip := tripped, pressureInvalid := false, supplyInvalid := false, pedalLost := false }
    pressureRun := 0, supplyRun := 0 }

/-- The DOOR entry created at cold start or wake (R25, R26, R61). -/
def doorEntry (p : Params) (now : Ms) : Entry := newEntry 17 (doorFields p.doorHold p.holdMax) now

/-! ### Cold start -/

/-- The channel drive after cold start (R136, R137). -/
def coldDrive : ChannelDrive := { buffer := holdCommand, active := holdCommand, last := none, waiting := none, running := none }

/-- The wheel record after cold start (R89). -/
def coldWheel : Wheel :=
  { lastCapture := none, interval := none, toothTimer := none, speed := 0, suspect := false, setTimer := none,
    clearTimer := none }

/-- The park valve record after cold start (R138). -/
def coldPark : Park :=
  { state := .released, step := none, pulseTimer := none, confirmTimer := none, pulses := 0, wanted := false,
    applyPending := false, retryTimer := none, fault := false, withheld := false }

/-- The port after cold start (R42, R46). A frame still in transmission, as at a RESTART whose answer found a full queue
(R201), is withdrawn: DESIGN CHOICE, log entry 7. -/
def coldPort : Port :=
  { online := true, errorCount := 0, recovery := none, answers := [], status := Vector.replicate 3 emptyPlace,
    excerpts := [], tx := none, answersDropped := 0 }

/-- The items of an input after cold start (R118). -/
def coldInput : InputItems :=
  { standing := none, standingValid := none, current := none, currentValid := none, allValid := none }

/-- The coordinator's record after cold start, its window to be started (R166). -/
def coldCoordinator : Coordinator :=
  { state := .autoPark, settleTimer := none, settled := false, dwellTimer := none, quietTimer := none, armed := true,
    edges := Vector.replicate 6 0, ignitionOffPending := false, watchOpen := false, withheldTimer := none,
    springCycles := [], promotionRefused := 0, airLow := false, rollingSecured := false,
    rolling := Vector.replicate 6 [] }

/-- The settings loaded from the image, or the factory settings when its checksum is not valid (R200). -/
def loadSettings (image : Image) : Settings :=
  { params := if image.valid then image.params else factoryParams
    image := image
    configDefaulted := !image.valid
    store := none
    restartPending := false }

/-- The scan list loaded with the settings, IDLE in drive scan (R115, R118, R121, R200). -/
def loadSampling (image : Image) : Sampling :=
  { records := if image.valid then image.records else factoryRecords
    length := if image.valid then image.length else factoryLength
    selector := 0, inputs := Vector.replicate 12 coldInput, watchMode := false, scan := none, trigger := none,
    watchTimer := none, overrun := 0 }

/-- The trip unit after cold start, CUT_LINE not yet read (R156, R160). -/
def coldTrip (stall : Nat) : TripUnit :=
  { tripped := false, latched := TripSet.none, active := TripSet.none, undervoltRun := 0,
    overpressure := Vector.replicate 6 0, stallTimer := some stall }

/-- The table at a cold start before slot 4: slot 0, and slots 1 and 2 as the lines stand (R25). -/
def coldTable (p : Params) (door parkSwitch : Bool) (now : Ms) : Table :=
  put (put (put (Vector.replicate 32 none) 0 (some pedalEntry)) 1 (if door then some (doorEntry p now) else none)) 2
    (if parkSwitch then some (newEntry 18 parkFields now) else none)

/-- Every block in its cold-start state, the table still without a PARK entry; the queue, the elapsed time, the lines at
the pins and the image remain, and the counters may hold any value (00_scope Time; log entry 2). -/
def coldBlocks (s : State) : State :=
  { pending := s.pending
    draws := s.draws + 1
    clock := { us := s.clock.us, ms := Config.coldMs s.draws, capture := Config.coldCapture s.draws }
    lines := s.lines
    door := s.door.reread
    parkSwitch := s.parkSwitch.reread
    doorOpenMoving := false
    pedal := freshPedal
    roster := loadRoster (if s.settings.image.valid then s.settings.image.roster else factoryRoster)
    port := coldPort
    table := Vector.replicate 32 none
    override := freshOverride
    alloc := { timer := s.clock.us + msec 10, target := Vector.replicate 6 0, supplyLimited := Vector.replicate 6 false }
    wheel := Vector.replicate 6 coldWheel
    vref := 0
    slip := { group := Vector.replicate 5 followGroup, reapply := Vector.replicate 6 0,
              fault := Vector.replicate 6 false, tlJoined := true, trJoined := true }
    sampling := (loadSampling s.settings.image).enterDrive s.clock.us
    valve := { timer := s.clock.us + msec (loadSettings s.settings.image).params.modulationPeriod,
               chan := Vector.replicate 6 coldDrive }
    park := coldPark
    exercise := idleExercise
    circuit := Vector.replicate 2 (freshCircuit false)
    pedalRun := 0
    trip := coldTrip (s.clock.us + msec 6)
    coord := coldCoordinator
    excerpt := { emission := none, waiting := [] }
    status := { timer := s.clock.us + msec 100, lastPage := 1 }
    settings := loadSettings s.settings.image }

/-- The home entries of cold start: slots 0 to 2 by the lines, then slot 4, at which park becomes wanted and an apply
attempt starts (R25, R189). -/
def coldEntries (s : State) : State :=
  startWindow (postSlot4
    (putTable s (coldTable s.settings.params s.door.state s.parkSwitch.state s.clock.ms)))

/-- Cold start: every block, the home entries, CUT_LINE read as it stands, and SECURING when the ignition is off
(R25, R157, R189). -/
def coldStart (s : State) : State :=
  let t := coldEntries (coldBlocks s)
  let u := setActive t { t.trip.active with cutLine := t.lines.cutOut }
  if u.lines.ignition then u else enterSecuring u

/-! ### Wake -/

/-- The table at wake: PARK entries kept, slots 0 to 2 made to match the lines (R26). -/
def wakeTable (t : Table) (p : Params) (door parkSwitch : Bool) (now : Ms) : Table :=
  put (put (put t 0 (some pedalEntry)) 1 (if door then some (doorEntry p now) else none)) 2
    (if parkSwitch then (if t[2].isSome then t[2] else some (newEntry 18 parkFields now)) else none)

/-- The port at wake: the queues are emptied, a frame in transmission goes on (R42, R46; log entry 7). -/
def Port.wake (p : Port) : Port := { p.discard with tx := p.tx.map fun t => { t with held := false } }

/-- The coordinator's record at wake, its window to be started (R166, R188). -/
def Coordinator.wake (k : Coordinator) : Coordinator :=
  { coldCoordinator with
    springCycles := k.springCycles, promotionRefused := k.promotionRefused, airLow := k.airLow,
    rollingSecured := k.rollingSecured }

/-- The blocks at wake (R53, R55, R125, R146, R150, R160, R188, R191, R194). -/
def wakeBlocks (s : State) : State :=
  { s with
    door := s.door.reread
    parkSwitch := s.parkSwitch.reread
    pedal := freshPedal
    port := s.port.wake
    override := freshOverride
    sampling := s.sampling.enterDrive s.clock.us
    exercise := idleExercise
    circuit := Vector.replicate 2 (freshCircuit s.trip.tripped)
    pedalRun := 0
    trip := { s.trip with stallTimer := some (s.clock.us + msec 6) }
    coord := s.coord.wake
    excerpt := { emission := none, waiting := [] }
    status := { s.status with timer := s.clock.us + msec 100 } }

/-- Wake: the blocks, the home entries, DOOR_OPEN_MOVING and the creep window (R26, R62, R188). -/
def wake (s : State) : State :=
  let t := reevaluateRelease (wakeBlocks s)
  handover (startWindow (evalDoorMoving
    (putTable t (wakeTable t.table t.settings.params t.door.state t.parkSwitch.state t.clock.ms))))

end Sys2Proof.Machine
end

