-- ==== Sys2Proof/Machine/CabEvents.lean ====
section
/-!
DEFINITION. The meanings of COLD_START, DEBOUNCED_LINE_CHANGE, DEBOUNCE_EXPIRY, DRIVE_REQUEST_CHANGE, IGNITION_CHANGE
and BRAKE_CUT_OUT_CHANGE (R21, R25, R51 to R54, R61 to R63, R157, R182).
-/

namespace Sys2Proof.Machine

/-- COLD_START (R25). -/
def execColdStart (s : State) : Result := .next (coldStart s)

/-! ### Debounced lines -/

/-- A debounced line at a change to a level (R52); the same level again is no change (log entry 6). -/
def Debounced.change (d : Debounced) (active : Bool) (expiry : Nat) : Debounced :=
  if d.raw = active then d
  else { d with raw := active, timer := if active = d.state then none else some expiry }

/-- DEBOUNCED_LINE_CHANGE (R52). -/
def execDebouncedLineChange (line : DebouncedLine) (active : Bool) (s : State) : Result :=
  .next (match line with
    | .doorOpen => { s with door := s.door.change active (s.clock.us + msec 50) }
    | .parkSwitch => { s with parkSwitch := s.parkSwitch.change active (s.clock.us + msec 50) })

/-- The DOOR source at the end of the door's debounce: DOOR_OPEN_MOVING, and the post or release of slot 1 outside
SECURING and SECURED (R52, R54, R61, R62). -/
def doorSettled (s : State) : State :=
  let t := evalDoorMoving { s with door := s.door.reread }
  if s.door.raw = s.door.state || securingOrSecured s then t
  else if s.door.raw then postDoor t
  else releaseDoor t

/-- The PARK SWITCH source at the end of the switch's debounce: the post or release of slot 2 outside SECURING and
SECURED (R52, R54, R63). -/
def switchSettled (s : State) : State :=
  let t := { s with parkSwitch := s.parkSwitch.reread }
  if s.parkSwitch.raw = s.parkSwitch.state || securingOrSecured s then t
  else if s.parkSwitch.raw then postSwitch t
  else releaseSwitch t

/-- DEBOUNCE_EXPIRY (R52); without effect where the line's timer is not due (log entry 1). -/
def execDebounceExpiry (line : DebouncedLine) (s : State) : Result :=
  .next (match line with
    | .doorOpen => if due s.door.timer s.clock.us then doorSettled s else s
    | .parkSwitch => if due s.parkSwitch.timer s.clock.us then switchSettled s else s)

/-! ### Lines without debounce -/

/-- The drive-request line changes: the override flag is armed at inactive, the override condition is evaluated, and the
coordinator acts (R21, R169, R172, R178). -/
def driveChanged (s : State) (active : Bool) : State :=
  coordinatorDrive (evalOverride
    { s with
      lines := { s.lines with drive := active }
      override := { s.override with armed := s.override.armed || !active } })

/-- DRIVE_REQUEST_CHANGE (R51). -/
def execDriveRequestChange (active : Bool) (s : State) : Result :=
  .next (if s.lines.drive = active then s else driveChanged s active)

/-- Ignition-off becomes pending (R182). -/
def deferSecuring (s : State) : State := { s with coord := { s.coord with ignitionOffPending := true } }

/-- The ignition goes off (R182). -/
def ignitionOff (s : State) : State :=
  if securingOrSecured s then s else if s.vref = 0 then enterSecuring s else deferSecuring s

/-- The ignition goes on (R182). -/
def ignitionOn (s : State) : State :=
  match s.coord.state with
  | .securing => returnFromSecuring s
  | .secured => wake s
  | .run => { s with coord := { s.coord with ignitionOffPending := false } }
  | .stopHold => { s with coord := { s.coord with ignitionOffPending := false } }
  | .autoPark => { s with coord := { s.coord with ignitionOffPending := false } }
  | .creepHold => { s with coord := { s.coord with ignitionOffPending := false } }

/-- The ignition line changes to a level (R182). -/
def ignitionChanged (s : State) (active : Bool) : State :=
  let t := { s with lines := { s.lines with ignition := active } }
  if active then ignitionOn t else ignitionOff t

/-- IGNITION_CHANGE (R182). -/
def execIgnitionChange (active : Bool) (s : State) : Result :=
  .next (if s.lines.ignition = active then s else ignitionChanged s active)

/-- The brake cut-out line changes: CUT_LINE follows it, and its rise trips (R157, R161). -/
def cutOutChanged (s : State) (active : Bool) : State :=
  settleModes (setActive { s with lines := { s.lines with cutOut := active } } { s.trip.active with cutLine := active })

/-- BRAKE_CUT_OUT_CHANGE (R157). -/
def execBrakeCutOutChange (active : Bool) (s : State) : Result :=
  .next (if s.lines.cutOut = active then s else cutOutChanged s active)

end Sys2Proof.Machine
end

