-- ==== Sys2Proof/Machine/CoordinatorEvents.lean ====
section
/-!
DEFINITION. The meanings of SETTLE_TIMER_EXPIRY, DWELL_EXPIRY, QUIET_WINDOW_EXPIRY, WITHHELD_RELEASE_EXPIRY and
SPRING_CYCLE_ENTRY_EXPIRY (R168 to R181). Each is without effect where its timer is not due (log entry 1), and only clears
its timer in a state that does not run it (log entry 28).
-/

namespace Sys2Proof.Machine

/-- The settle timer expires in RUN: settled, and the stop-hold conditions are evaluated (R169). -/
def settleExpired (s : State) : State :=
  evalStopHold { s with coord := { s.coord with settleTimer := none, settled := s.coord.settled || s.coord.state = .run } }

/-- SETTLE_TIMER_EXPIRY (R169). -/
def execSettleTimerExpiry (s : State) : Result :=
  .next (if due s.coord.settleTimer s.clock.us then settleExpired s else s)

/-- The dwell timer expires: in STOP_HOLD promotion is considered (R173). -/
def dwellExpired (s : State) : State :=
  let t := { s with coord := { s.coord with dwellTimer := none } }
  if s.coord.state = .stopHold then considerPromotion t else t

/-- DWELL_EXPIRY (R173). -/
def execDwellExpiry (s : State) : Result := .next (if due s.coord.dwellTimer s.clock.us then dwellExpired s else s)

/-- The creep detector runs (R168). -/
def detectorRuns (st : Standstill) : Bool := st = .stopHold || st = .autoPark || st = .creepHold

/-- QUIET_WINDOW_EXPIRY (R168, R177). -/
def execQuietWindowExpiry (s : State) : Result :=
  .next (if due s.coord.quietTimer s.clock.us then
      (if detectorRuns s.coord.state then quietExpired s else { s with coord := s.coord.stopWindow })
    else s)

/-- The withheld-release timer expires: in RUN the drive-off is undone (R179). -/
def withheldExpired (s : State) : State :=
  if s.coord.state = .run then undoDriveOff s else { s with coord := { s.coord with withheldTimer := none } }

/-- WITHHELD_RELEASE_EXPIRY (R179). -/
def execWithheldReleaseExpiry (s : State) : Result :=
  .next (if due s.coord.withheldTimer s.clock.us then withheldExpired s else s)

/-- The oldest spring-cycle entry has reached the cycle window (R181). -/
def cycleDue (l : List Ms) (now : Ms) (window : Nat) : Bool :=
  match l with
  | [] => false
  | t :: _ => window * 1000 ≤ (now - t).toNat

/-- SPRING_CYCLE_ENTRY_EXPIRY (R181). -/
def execSpringCycleEntryExpiry (s : State) : Result :=
  .next
    { s with
      coord :=
        { s.coord with
          springCycles :=
            if cycleDue s.coord.springCycles s.clock.ms s.settings.params.cycleWindow then s.coord.springCycles.drop 1
            else s.coord.springCycles } }

end Sys2Proof.Machine
end

