-- ==== Sys2Proof/Machine/ParkEvents.lean ====
section
/-!
DEFINITION. The meanings of PARK_PULSE_END, CONFIRMATION_WINDOW_EXPIRY and RETRY_TIMER_EXPIRY (R139, R141 to R143). Each
is without effect where its timer is not due (log entry 1), and only clears its timer in a state that does not run it
(log entry 28).
-/

namespace Sys2Proof.Machine

/-- A confirmation window opens (R139, R141). -/
def Park.openWindow (p : Park) (expiry : Nat) : Park :=
  { p with step := some .confirm, pulseTimer := none, confirmTimer := some expiry }

/-- A park pulse ends: a confirmation window opens, or the pending apply starts (R139, R141, R142). -/
def Park.pulseEnd (p : Park) (now : Nat) : Park :=
  match p.state with
  | .applying => p.openWindow (now + msec 1500)
  | .releasing => if p.applyPending then p.startApply now else p.openWindow (now + msec 3000)
  | .applied => { p with pulseTimer := none }
  | .released => { p with pulseTimer := none }
  | .parkFault => { p with pulseTimer := none }

/-- PARK_PULSE_END (R139, R141, R142). -/
def execParkPulseEnd (s : State) : Result :=
  .next { s with park := if due s.park.pulseTimer s.clock.us then s.park.pulseEnd s.clock.us else s.park }

/-- The next APPLY pulse of an attempt (R139). -/
def Park.nextPulse (p : Park) (now : Nat) : Park :=
  { p with step := some .pulse, pulses := p.pulses + 1, pulseTimer := some (now + msec 150), confirmTimer := none }

/-- A confirmation window expires: a further apply pulse, or PARK_FAULT (R139, R141). -/
def Park.windowExpired (p : Park) (now : Nat) : Park :=
  match p.state with
  | .applying => if p.pulses < 3 then p.nextPulse now else p.fail now
  | .releasing => p.fail now
  | .applied => { p with confirmTimer := none }
  | .released => { p with confirmTimer := none }
  | .parkFault => { p with confirmTimer := none }

/-- CONFIRMATION_WINDOW_EXPIRY (R139, R141). -/
def execConfirmationWindowExpiry (s : State) : Result :=
  .next { s with park := if due s.park.confirmTimer s.clock.us then s.park.windowExpired s.clock.us else s.park }

/-- The retry timer expires: in PARK_FAULT an apply attempt starts when park is wanted, else release is evaluated
(R143). -/
def retryExpired (s : State) : State :=
  let t := { s with park := { s.park with retryTimer := none } }
  if s.park.state != .parkFault then t
  else if s.park.wanted then { t with park := t.park.startApply s.clock.us }
  else evaluateRelease t

/-- RETRY_TIMER_EXPIRY (R143). -/
def execRetryTimerExpiry (s : State) : Result := .next (if due s.park.retryTimer s.clock.us then retryExpired s else s)

end Sys2Proof.Machine
end

