-- ==== Sys2Proof/Machine/Allocate.lean ====
section
/-!
DEFINITION. Pressure allocation (chapter 4): entry pressures, arbitration, limits, slew, commands.
-/

namespace Sys2Proof.Machine

/-- The entry contributes to a channel (R71). -/
def Entry.contributes (e : Entry) (c : Channel) (vref : Nat) : Bool :=
  e.scope.getLsbD c.val && e.cls != .park
    && (match e.gate with
        | some g => vref ≤ g.toNat
        | none => true)
    && (e.cls != .test || vref = 0)

/-- Value times blend in sixty-fourths, rounded to nearest: the effective deceleration E, or a HOLD pressure
(R72, R74). -/
def Entry.effective (e : Entry) : Nat := (e.value.getD 0 * e.blend + 32) / 64

/-- The pressure of an effective deceleration on an axle (R73). -/
def decelPressure (p : Params) (axle : Fin 3) (effective : Nat) : Nat :=
  if effective = 0 then 0 else p.pushOut axle + (effective * p.gain axle + 50) / 100

/-- The entry pressure on a channel; an entry that does not contribute gives 0 (R71 to R74). -/
def Entry.pressure (e : Entry) (p : Params) (c : Channel) (vref : Nat) : Nat :=
  if !e.contributes c vref then 0
  else if e.cls = .hold then e.effective
  else decelPressure p (axleOf c) e.effective

/-- The greatest entry pressure on a channel (R75). -/
def arbitrated (t : Table) (p : Params) (c : Channel) (vref : Nat) : Nat :=
  (List.finRange 32).foldl (fun m i =>
    match t[i] with
    | some e => max m (e.pressure p c vref)
    | none => m) 0

/-- The supply limit of a circuit (R78). -/
def supplyLimit (supplyPressure : Nat) : Nat := supplyPressure - 30

/-- The demand pressure after the Pmax clamp and before the supply clamp (R76). -/
def demandAtPmax (s : State) (t : Table) (c : Channel) : Nat :=
  min (arbitrated t s.settings.params c s.vref) (s.settings.params.pmax (axleOf c))

/-- The limit of the channel's circuit. -/
def channelLimit (s : State) (c : Channel) : Nat := supplyLimit (supply s.sampling (circuitOf c))

/-- Pd_c (R75 to R78). -/
def demandPressure (s : State) (t : Table) (c : Channel) : Nat := min (demandAtPmax s t c) (channelLimit s c)

/-- An EMERGENCY entry contributes with E above 0, so that a rise is taken at once (R79). -/
def emergencyActs (t : Table) (c : Channel) (vref : Nat) : Bool :=
  (List.finRange 32).any fun i =>
    match t[i] with
    | some e => e.cls = .emergency && e.contributes c vref && 0 < e.effective
    | none => false

/-- The slewed target (R79, R80). -/
def slewed (p : Params) (bypass : Bool) (previous demand : Nat) : Nat :=
  if previous < demand then (if bypass then demand else min (previous + p.slewUp) demand)
  else max (previous - p.slewDown) demand

/-- T_c at this period, from the table after its advance (R79, R80). -/
def targetOf (s : State) (t : Table) (c : Channel) : Nat :=
  slewed s.settings.params (emergencyActs t c s.vref) s.alloc.target[c] (demandPressure s t c)

/-- The duty of an error beyond the dead band (R83). -/
def dutyOf (p : Params) (beyond : Nat) : Nat := min 100 (p.dutyFloor + beyond * p.dutyGain)

/-- The command formed from a setpoint and a measured pressure (R83). -/
def formCommand (p : Params) (setpoint pressure : Nat) : Command :=
  if pressure + p.deadBand < setpoint then { dir := .apply, duty := dutyOf p (setpoint - pressure - p.deadBand) }
  else if setpoint + p.deadBand < pressure then
    { dir := .release, duty := dutyOf p (pressure - setpoint - p.deadBand) }
  else holdCommand

/-- The command written for a channel, given the targets and slip control's record after this period's decision
(R81 to R85). -/
def commandOf (s : State) (target : Vector Nat 6) (x : Slip) (c : Channel) : Command :=
  if !electronic s c then holdCommand
  else
    match sourceOf x c with
    | .forced k => k
    | .normal =>
        if pressureInvalid s.sampling c then holdCommand
        else formCommand s.settings.params target[c] (measured s.sampling c)
    | .reapply =>
        if pressureInvalid s.sampling c then holdCommand
        else formCommand s.settings.params x.reapply[c] (measured s.sampling c)

/-- The table after the blend advance (R18). -/
def advanced (t : Table) : Table := mapEntries t Entry.advance

/-- The targets of a period (R65). -/
def periodTargets (s : State) : Vector Nat 6 := Vector.ofFn fun c => targetOf s (advanced s.table) c

/-- An allocation period: blend advance, targets, slip control, duty buffers (R65). -/
def allocate (s : State) : State :=
  { s with
    table := advanced s.table
    alloc :=
      { timer := s.clock.us + msec 10
        target := periodTargets s
        supplyLimited := Vector.ofFn fun c => decide (channelLimit s c < demandAtPmax s (advanced s.table) c) }
    slip := slipPeriod s (periodTargets s)
    valve := { s.valve with chan := mapAll s.valve.chan fun c d =>
      { d with buffer := commandOf s (periodTargets s) (slipPeriod s (periodTargets s)) c } } }

end Sys2Proof.Machine
end

