-- ==== Sys2Proof/Machine/PeriodEvents.lean ====
section
/-!
DEFINITION. The meanings of ALLOCATION_PERIOD, CONVERSION_COMPLETE, SCAN_TRIGGER_EXPIRY, WATCH_TIMER_EXPIRY,
STALL_TIMER_EXPIRY, MODULATION_PERIOD_START, MODULATOR_PULSE_START and MODULATOR_PULSE_END (R18, R65, R117, R120, R121,
R124, R136, R137, R160). Each is without effect where its timer is not due (log entry 1).
-/

namespace Sys2Proof.Machine

/-- ALLOCATION_PERIOD (R65). -/
def execAllocationPeriod (s : State) : Result := .next (if s.alloc.timer ≤ s.clock.us then allocate s else s)

/-- The conversion in flight ends with a raw value (R117). -/
def conversionEvent (s : State) (raw : BitVec 12) : State :=
  match s.sampling.scan with
  | some p =>
      if p.stop ≤ s.clock.us then
        takeConversion s p.record (convResult s.sampling s.settings.params s.sampling.records[p.record] raw)
      else s
  | none => s

/-- CONVERSION_COMPLETE (R117). -/
def execConversionComplete (raw : BitVec 12) (s : State) : Result := .next (conversionEvent s raw)

/-- The sampling unit at a scan trigger: a scan starts when IDLE, else the overrun count rises (R120, R121). -/
def Sampling.triggered (g : Sampling) (now : Nat) : Sampling :=
  let h := { g with trigger := some (now + msec 2) }
  if g.scan.isNone then h.start now else { h with overrun := min 255 (g.overrun + 1) }

/-- SCAN_TRIGGER_EXPIRY (R120, R121). -/
def execScanTriggerExpiry (s : State) : Result :=
  .next { s with sampling := if due s.sampling.trigger s.clock.us then s.sampling.triggered s.clock.us else s.sampling }

/-- The sampling unit at a watch timer expiry: a watch scan starts (R124). -/
def Sampling.watchExpired (g : Sampling) (now : Nat) : Sampling :=
  let h := { g with watchTimer := some (now + msec 1000) }
  if g.scan.isNone then h.start now else h

/-- WATCH_TIMER_EXPIRY (R124). -/
def execWatchTimerExpiry (s : State) : Result :=
  .next
    { s with
      sampling := if due s.sampling.watchTimer s.clock.us then s.sampling.watchExpired s.clock.us else s.sampling }

/-- The stall timer expires: SCAN_STALL becomes active (R160). -/
def stallExpired (s : State) : State :=
  settleModes (setActive { s with trip := { s.trip with stallTimer := none } } { s.trip.active with scanStall := true })

/-- STALL_TIMER_EXPIRY (R160). -/
def execStallTimerExpiry (s : State) : Result := .next (if due s.trip.stallTimer s.clock.us then stallExpired s else s)

/-- MODULATION_PERIOD_START (R136). -/
def execModulationPeriodStart (s : State) : Result :=
  .next (if s.valve.timer ≤ s.clock.us then modulationStart s else s)

/-- MODULATOR_PULSE_START (R136, R137). -/
def execModulatorPulseStart (c : Channel) (s : State) : Result :=
  .next { s with valve := { s.valve with chan := alter s.valve.chan c fun d => d.begin s.clock.us } }

/-- MODULATOR_PULSE_END (R137). -/
def execModulatorPulseEnd (c : Channel) (s : State) : Result :=
  .next { s with valve := { s.valve with chan := alter s.valve.chan c fun d => d.finish s.clock.us s.valve.timer } }

end Sys2Proof.Machine
end

