-- ==== Sys2Proof/Machine/PortEvents.lean ====
section
/-!
DEFINITION. The meanings of MALFORMED_FRAME, IGNORED_FRAME, MUTE_EXPIRY, TRANSMIT_START, TRANSMIT_COMPLETE,
TRANSMIT_FAILURE, RECOVERY_WAIT_EXPIRY and STATUS_PERIOD_EXPIRY (R32 to R35, R43 to R46, R193 to R195, R201).
-/

namespace Sys2Proof.Machine

/-! ### Malformed and ignored frames, mutes -/

/-- A record at a malformed frame: an ENROLLED one counts it and is MUTED at 16; a MUTED and an ABSENT one stand
(R33, R35). -/
def RosterRecord.malformedFrame (r : RosterRecord) (now : Ms) : RosterRecord :=
  if r.state != .enrolled then r
  else if 16 ≤ r.malformed + 1 then { r with state := .muted, malformed := 16, muteTimer := some (msAfter now 1000) }
  else { r with malformed := r.malformed + 1 }

/-- A malformed frame is taken while the port is ONLINE (R33, R45). -/
def malformedEvent (s : State) (a : Address) : State :=
  { s with roster := if s.port.online then alter s.roster a fun r => r.malformedFrame s.clock.ms else s.roster }

/-- MALFORMED_FRAME (R33); a term that spells no malformed frame is refused (log entry 18). -/
def execMalformedFrame (a : Address) (lengthCode : Fin 16) (kind : Byte) (s : State) : Result :=
  if (Instr.malformedFrame a lengthCode kind).wf then .next (malformedEvent s a) else .refused .illFormed

/-- IGNORED_FRAME: ignored and not counted (R32); a term that spells no ignored frame is refused (log entry 18). -/
def execIgnoredFrame (why : IgnoredReason) (s : State) : Result :=
  if (Instr.ignoredFrame why).wf then .next s else .refused .illFormed

/-- The mute of a record ends when its timer is reached (R34). -/
def RosterRecord.unmute (r : RosterRecord) (now : Ms) : RosterRecord :=
  match r.state, r.muteTimer with
  | .muted, some t => if reached now t then { r with state := .enrolled, malformed := 0, muteTimer := none } else r
  | _, _ => r

/-- MUTE_EXPIRY (R34); without effect where no mute timer is reached (log entry 1). -/
def execMuteExpiry (a : Address) (s : State) : Result :=
  .next { s with roster := alter s.roster a fun r => r.unmute s.clock.ms }

/-! ### Transmission -/

/-- TRANSMIT_START (R43); without effect where nothing can be put into transmission. -/
def execTransmitStart (s : State) : Result :=
  .next (match s.port.chosen with
    | some t => { s with port := { s.port with tx := some t } }
    | none => s)

/-- The excerpt engine at the completion of one of its frames: END completes the emission, any other frees a place
(R193). -/
def excerptSent (s : State) (f : Frame) : State := if f.b0 = 5 then finishEmission s else fillExcerpts s

/-- A transmission completes (R43, R44, R193, R201). -/
def sent (s : State) (t : Transmission) : State :=
  let u := { s with port := s.port.completed t }
  if t.restart then coldStart u
  else if t.holder = .excerpt && t.held then excerptSent u t.frame
  else u

/-- TRANSMIT_COMPLETE (R43, R44); without effect where no frame is in transmission (log entry 24). -/
def execTransmitComplete (s : State) : Result :=
  .next (match s.port.tx with
    | some t => sent s t
    | none => s)

/-- A transmission fails (R43 to R45, R201). -/
def notSent (s : State) (t : Transmission) (why : TransmitFault) : State :=
  let u := { s with port := s.port.failed t why }
  if u.port.errorCount < 256 then u
  else if s.port.holdsRestart then coldStart (goOffline u)
  else goOffline u

/-- TRANSMIT_FAILURE (R43, R44); without effect where no frame is in transmission (log entry 24). -/
def execTransmitFailure (why : TransmitFault) (s : State) : Result :=
  .next (match s.port.tx with
    | some t => notSent s t why
    | none => s)

/-- The port rejoins the bus (R46). -/
def rejoinBus (s : State) : State :=
  { s with port := { s.port with online := true, errorCount := 0, recovery := none } }

/-- RECOVERY_WAIT_EXPIRY (R46); without effect where the wait is not over (log entry 1). -/
def execRecoveryWaitExpiry (s : State) : Result := .next (if due s.port.recovery s.clock.us then rejoinBus s else s)

/-- A status period expires (R194, R195). -/
def statusExpired (s : State) : State :=
  let t := formStatus s
  { t with status := { t.status with timer := s.clock.us + statusPeriod s.coord.state } }

/-- STATUS_PERIOD_EXPIRY (R194); without effect where the timer is not due (log entry 1). -/
def execStatusPeriodExpiry (s : State) : Result := .next (if s.status.timer ≤ s.clock.us then statusExpired s else s)

end Sys2Proof.Machine
end

