-- ==== Sys2Proof/Machine/Demands.lean ====
section
/-!
DEFINITION. The common path of requests (R33 to R36, R40) and the meanings of POST, REFRESH, RELEASE,
DEADLINE_EXPIRY and HOLD_OVERRIDE (chapters 1 and 2).
-/

namespace Sys2Proof.Machine

/-! ### Common path of requests -/

/-- The sender's malformed count becomes 0 at its well-formed frame (R33). -/
def wellFormed (s : State) (a : Address) : State :=
  { s with roster := alter s.roster a fun r => { r with malformed := 0 } }

/-- A NOT_ENROLLED answer (R35; log entry 11): the subject byte as given, and 0xFF where the kind carries a handle. -/
def notEnrolled (s : State) (a : Address) (kind : Kind) (subject b6 b7 : Byte) : State :=
  answer s a kind subject .notEnrolled 0xFF b6 b7

/-- The path every well-formed request takes: while the port is OFFLINE it does not reach the block (R45); from an ABSENT
address it is answered NOT_ENROLLED (R35); from a MUTED one it is dropped (R33); from an ENROLLED one the count becomes 0
and it is acted on (R33, R36). -/
def request (s : State) (a : Address) (absent : State) (act : State → Result) : Result :=
  if !s.port.online then .next s
  else
    match s.roster[a].state with
    | .absent => .next absent
    | .muted => .next s
    | .enrolled => act (wellFormed s a)

/-- The answer to a demand request (R15, R48): handle and remaining lifetime of the table after it. -/
def demandAnswer (s : State) (a : Address) (kind : Kind) (cls : Byte) (code : AnswerCode) (handle : Option Slot) : State :=
  answer s a kind cls code (handleByte handle) (lo8 (remainingLifetime s.table handle s.clock.ms)) 0

/-- The table's reply is put in force and answered (R7, R15). -/
def takeReply (s : State) (a : Address) (kind : Kind) (cls : Byte) (r : TableReply) : State :=
  demandAnswer (putTable s r.table) a kind cls r.code r.handle

/-! ### POST (R37, R38, R9 to R12) -/

/-- An accepted reply to a POST whose fields were clamped is ACCEPTED_CLAMPED (R37). -/
def TableReply.marked (r : TableReply) (clamped : Bool) : TableReply :=
  if clamped && r.code = .accepted then { r with code := .acceptedClamped } else r

/-- A POST that has passed the checks of R37 reaches the table with its fields as R38 takes them. -/
def postAtTable (s : State) (a : Address) (cls : DemandClass) (scope : ChannelSet) (clsByte : Byte) (value : BitVec 16)
    (lifetime options gate : Byte) : Result :=
  match tablePost s.table s.clock.ms s.settings.params.roomThreshold (busSource a)
      (postFields cls scope value lifetime options gate s.settings.params.holdMax) with
  | none => .fault .emergencyPartitionFull
  | some r => .next (takeReply s a .post clsByte (r.marked (postClamped cls value lifetime s.settings.params.holdMax)))

/-- A POST from an ENROLLED address (R37). -/
def postRequest (s : State) (a : Address) (cls scope : Byte) (value : BitVec 16) (lifetime options gate : Byte) : Result :=
  match checkPost s.roster[a] (securingOrSecured s) cls scope with
  | .error code => .next (demandAnswer s a .post cls code none)
  | .ok (k, set) => postAtTable s a k set cls value lifetime options gate

/-- POST (R37). -/
def execPost (a : Address) (cls scope : Byte) (value : BitVec 16) (lifetime options gate : Byte) (s : State) : Result :=
  request s a (notEnrolled s a .post cls 0 0) fun t => postRequest t a cls scope value lifetime options gate

/-! ### REFRESH and RELEASE (R38, R13, R14) -/

/-- A REFRESH from an ENROLLED address (R13, R38). -/
def refreshRequest (s : State) (a : Address) (cls : Byte) : State :=
  match classOf cls with
  | none => demandAnswer s a .refresh cls .badField none
  | some k => takeReply s a .refresh cls (tableRefresh s.table s.clock.ms (busSource a) k)

/-- A RELEASE from an ENROLLED address (R14, R38). -/
def releaseRequest (s : State) (a : Address) (cls : Byte) : State :=
  match classOf cls with
  | none => demandAnswer s a .release cls .badField none
  | some k => takeReply s a .release cls (tableRelease s.table (busSource a) k)

/-- REFRESH (R13). -/
def execRefresh (a : Address) (cls : Byte) (s : State) : Result :=
  request s a (notEnrolled s a .refresh cls 0 0) fun t => .next (refreshRequest t a cls)

/-- RELEASE (R14). -/
def execRelease (a : Address) (cls : Byte) (s : State) : Result :=
  request s a (notEnrolled s a .release cls 0 0) fun t => .next (releaseRequest t a cls)

/-! ### Timers of the table -/

/-- The deadline of the entry in a slot runs out (R17). -/
def deadlineEvent (s : State) (slot : Slot) : State :=
  { s with table := alter s.table slot fun o => o.map fun e => if e.lapseDue s.clock.ms then e.lapse else e }

/-- DEADLINE_EXPIRY (R17); without effect where no deadline is due (log entry 1). -/
def execDeadlineExpiry (slot : Slot) (s : State) : Result := .next (deadlineEvent s slot)

/-- The hold override fires (R22). -/
def fireOverride (s : State) : State :=
  { s with
    table := mapEntries s.table fun e => some e.overridden
    override := { timer := none, armed := false, flag := true } }

/-- HOLD_OVERRIDE (R21, R22); without effect where the timer is not due (log entry 1). -/
def execHoldOverride (s : State) : Result := .next (if due s.override.timer s.clock.us then fireOverride s else s)

end Sys2Proof.Machine
end

