-- ==== Sys2Proof/Machine/SettingsRequests.lean ====
section
/-!
DEFINITION. The meanings of SET_PARAM, SET_ROSTER, STORE, STORE_COMPLETE and RESTART (R20, R30, R31, R196 to R201).
-/

namespace Sys2Proof.Machine

/-- An answer that carries only an outcome (R48). -/
def plainAnswer (s : State) (a : Address) (kind : Kind) (subject : Byte) (code : AnswerCode) : State :=
  answer s a kind subject code 0xFF 0 0

/-! ### SET_PARAM -/

/-- The outcome of a SET_PARAM: configure permission, then the checks of R197 in their order (R36). -/
def setParamCode (s : State) (configure : Bool) (id v : Nat) : AnswerCode :=
  if !configure then .classNotPermitted
  else if s.coord.state != .autoPark then .wrongState
  else if s.settings.store.isSome then .busy
  else if paramOk s.settings.params s.sampling id v then .accepted
  else .badField

/-- A lowered Pmax lowers the targets of its axle that stand above it (R70). -/
def lowerTargets (s : State) (old : Params) : State :=
  { s with
    alloc :=
      { s.alloc with
        target := mapAll s.alloc.target fun c v =>
          if s.settings.params.pmax (axleOf c) < old.pmax (axleOf c) then min v (s.settings.params.pmax (axleOf c))
          else v } }

/-- A lowered hold_max lowers the HOLD values above it (R23). -/
def lowerHolds (s : State) (old : Params) : State :=
  { s with
    table :=
      if s.settings.params.holdMax < old.holdMax then
        mapEntries s.table fun e => some (e.capHold s.settings.params.holdMax)
      else s.table }

/-- A changed cycle window removes the spring-cycle entries older than it (R181). -/
def pruneCycles (s : State) (old : Params) : State :=
  { s with
    coord :=
      { s.coord with
        springCycles :=
          if s.settings.params.cycleWindow = old.cycleWindow then s.coord.springCycles
          else s.coord.springCycles.filter fun t => (s.clock.ms - t).toNat ≤ s.settings.params.cycleWindow * 1000 } }

/-- Trip sources enabled while active rise (R162). -/
def enableSources (s : State) (old : Params) : State :=
  settleModes (rise s ((s.trip.active.enabled s.settings.params).minus (s.trip.active.enabled old)))

/-- An accepted SET_PARAM of ids 1 to 43: the value is written and acts where its rule says at once
(R23, R70, R162, R181, R197). -/
def writeParam (s : State) (id v : Nat) : State :=
  let old := s.settings.params
  let t := { s with settings := { s.settings with params := setParam old id v } }
  enableSources (pruneCycles (lowerHolds (lowerTargets t old) old) old) old

/-- The record the selector names is changed (R126, R128). -/
def editRecord (s : State) (f : PointRecord → PointRecord) : State :=
  { s with sampling := { s.sampling with records := alter s.sampling.records s.sampling.selector f } }

/-- An accepted SET_PARAM of the scan-list group, ids 44 to 49 (R126 to R128). -/
def writeScanParam (s : State) (id v : Nat) : State :=
  match id with
  | 44 => { s with sampling := { s.sampling with selector := if h : v < 16 then ⟨v, h⟩ else s.sampling.selector } }
  | 45 => { s with sampling := ({ s.sampling with length := v } : Sampling).rewrite s.clock.us }
  | 46 =>
      let t := editRecord s fun r => if h : v < 12 then r.withInput ⟨v, h⟩ else r
      if s.sampling.selector.val < s.sampling.length then { t with sampling := t.sampling.rewrite s.clock.us } else t
  | 47 => editRecord s fun r => { r with watch := v != 0 }
  | 48 => editRecord s fun r => { r with low := v }
  | 49 => editRecord s fun r => { r with high := v }
  | _ => s

/-- The effect of an accepted SET_PARAM (R197). -/
def applyParam (s : State) (id v : Nat) : State := if id < 44 then writeParam s id v else writeScanParam s id v

/-- The answer to a SET_PARAM: bytes 6 and 7 carry the value in force (R48, R197). -/
def paramAnswer (s : State) (a : Address) (id : Byte) (code : AnswerCode) : State :=
  answer s a .setParam id code 0xFF (lo8 (valueInForce s.settings.params s.sampling id.toNat))
    (hi8 (valueInForce s.settings.params s.sampling id.toNat))

/-- A SET_PARAM from an ENROLLED address (R197). -/
def setParamRequest (s : State) (a : Address) (id : Byte) (value : BitVec 16) : State :=
  let code := setParamCode s s.roster[a].configure id.toNat value.toNat
  paramAnswer (if code = .accepted then applyParam s id.toNat value.toNat else s) a id code

/-- SET_PARAM (R197). -/
def execSetParam (a : Address) (id : Byte) (value : BitVec 16) (s : State) : Result :=
  request s a (paramAnswer s a id .notEnrolled) fun t => .next (setParamRequest t a id value)

/-! ### SET_ROSTER -/

/-- The record a SET_ROSTER writes over an old one (R30, R31). -/
def newRecord (old : RosterRecord) (enrolled : Bool) (classes scope configure : Byte) : RosterRecord :=
  if enrolled then
    { state := if old.state = .muted then .muted else .enrolled
      classes := classSetOf classes
      scope := scopeOf scope
      configure := configure = 1
      malformed := if old.state = .absent then 0 else old.malformed
      muteTimer := if old.state = .muted then old.muteTimer else none }
  else { state := .absent, classes := 0, scope := 0, configure := false, malformed := 0, muteTimer := none }

/-- The addresses that hold EMERGENCY or have an EMERGENCY entry standing (R28, R30). -/
def emergencyHolders (roster : Vector RosterRecord 16) (t : Table) : Nat :=
  ((List.finRange 16).filter fun a =>
    permits roster[a].classes .emergency || (findEntry t (busSource a) .emergency).isSome).length

/-- Some record that is ENROLLED or MUTED holds configure permission (R30). -/
def configurable (roster : Vector RosterRecord 16) : Bool :=
  (List.finRange 16).any fun a => roster[a].state != .absent && roster[a].configure

/-- The field checks of R30 on an address, given the roster after the change. -/
def rosterFieldsOk (roster : Vector RosterRecord 16) (t : Table) (enrolled : Bool) (classes configure : Byte) : Bool :=
  (!enrolled || ((!permits (classSetOf classes) .emergency || emergencyHolders roster t ≤ 4) && configure.toNat ≤ 1))
    && configurable roster

/-- The roster after a SET_ROSTER of an address (R31). -/
def changedRoster (roster : Vector RosterRecord 16) (x : Address) (state classes scope configure : Byte) :
    Vector RosterRecord 16 :=
  alter roster x fun old => newRecord old (state = 1) classes scope configure

/-- The outcome of a SET_ROSTER by the checks of R30 in their order. -/
def setRosterCode (s : State) (permitted : Bool) (target state classes scope configure : Byte) : AnswerCode :=
  if !permitted then .classNotPermitted
  else if s.coord.state != .autoPark then .wrongState
  else if s.settings.store.isSome then .busy
  else if h : target.toNat < 16 then
    if state.toNat ≤ 1 && rosterFieldsOk (changedRoster s.roster ⟨target.toNat, h⟩ state classes scope configure) s.table
        (state = 1) classes configure then .accepted
    else .badField
  else .badField

/-- The effect of an accepted SET_ROSTER: the record is written and the table applies it (R20, R31). -/
def applyRoster (s : State) (x : Address) (state classes scope configure : Byte) : State :=
  let roster := changedRoster s.roster x state classes scope configure
  putTable { s with roster := roster } (applyRecord s.table x roster[x].classes roster[x].scope)

/-- A SET_ROSTER from an ENROLLED address (R30, R31). -/
def setRosterRequest (s : State) (a : Address) (target state classes scope configure : Byte) : State :=
  let code := setRosterCode s s.roster[a].configure target state classes scope configure
  let t := if code = .accepted then
      (if h : target.toNat < 16 then applyRoster s ⟨target.toNat, h⟩ state classes scope configure else s)
    else s
  plainAnswer t a .setRoster target code

/-- SET_ROSTER (R30, R31). -/
def execSetRoster (a : Address) (target state classes scope configure : Byte) (s : State) : Result :=
  request s a (notEnrolled s a .setRoster target 0 0) fun t =>
    .next (setRosterRequest t a target state classes scope configure)

/-! ### STORE and RESTART -/

/-- A record as the image holds it: MUTED is written as ENROLLED (R198). -/
def RosterRecord.stored (r : RosterRecord) : StoredRecord :=
  { enrolled := r.state != .absent, classes := r.classes, scope := r.scope, configure := r.configure }

/-- The image an accepted STORE copies; its checksum is not valid until the completion (R198, R199). -/
def copyImage (s : State) : Image :=
  { params := s.settings.params, length := s.sampling.length, records := s.sampling.records,
    roster := mapAll s.roster fun _ r => r.stored, valid := false }

/-- An accepted STORE (R199). -/
def startStore (s : State) (a : Address) : State :=
  { s with settings := { s.settings with
      image := copyImage s
      store := some { sender := a, stop := s.clock.us + msec 400 } } }

/-- A STORE from an ENROLLED address (R199). -/
def storeRequest (s : State) (a : Address) : State :=
  if !s.roster[a].configure then plainAnswer s a .store 0 .classNotPermitted
  else if s.settings.store.isSome then plainAnswer s a .store 0 .busy
  else startStore s a

/-- STORE (R199). -/
def execStore (a : Address) (s : State) : Result :=
  request s a (notEnrolled s a .store 0 0 0) fun t => .next (storeRequest t a)

/-- The store completes (R199). -/
def finishStore (s : State) (j : StoreJob) : State :=
  plainAnswer
    { s with settings := { s.settings with
        image := { s.settings.image with valid := true }
        configDefaulted := false
        store := none } }
    j.sender .store 0 .accepted

/-- STORE_COMPLETE (R199); without effect where the store timer is not due (log entry 1). -/
def execStoreComplete (s : State) : Result :=
  .next (match s.settings.store with
    | some j => if j.stop ≤ s.clock.us then finishStore s j else s
    | none => s)

/-- An accepted RESTART: its answer is formed, and the cold start is pending on it (R201). -/
def acceptRestart (s : State) (a : Address) : State :=
  { s with
    settings := { s.settings with restartPending := true }
    port := s.port.push (answerFrame s.table s.settings.params a .restart 0 .accepted 0xFF 0 0) true }

/-- A RESTART from an ENROLLED address; an answer dropped at a full queue is the cold start (R201). -/
def restartRequest (s : State) (a : Address) : State :=
  if !s.roster[a].configure then plainAnswer s a .restart 0 .classNotPermitted
  else if s.vref != 0 then plainAnswer s a .restart 0 .wrongState
  else if s.settings.store.isSome || s.settings.restartPending then plainAnswer s a .restart 0 .busy
  else if 8 ≤ s.port.answers.length then coldStart (acceptRestart s a)
  else acceptRestart s a

/-- RESTART (R201). -/
def execRestart (a : Address) (s : State) : Result :=
  request s a (notEnrolled s a .restart 0 0 0) fun t => .next (restartRequest t a)

end Sys2Proof.Machine
end

