-- ==== Sys2Proof/Machine/ServiceRequests.lean ====
section
/-!
DEFINITION. The meanings of EXCERPT, CLEAR_TRIP, EXERCISE and EXERCISE_STOP (R146, R148, R163, R190).
-/

namespace Sys2Proof.Machine

/-! ### EXCERPT -/

/-- The answer to an EXCERPT (R48). -/
def excerptAnswer (s : State) (a : Address) (code : AnswerCode) (place : Byte) : State :=
  answer s a .excerpt 0 code 0xFF place 0

/-- Admission of an excerpt: emission starts, or the request joins the pending queue, or it is refused BUSY (R190). -/
def admitExcerpt (s : State) (a : Address) (r : ExcerptRequest) : State :=
  if s.excerpt.emission.isNone then excerptAnswer (startEmission s r) a .accepted 0
  else if s.excerpt.waiting.length < 2 then
    excerptAnswer { s with excerpt := { s.excerpt with waiting := s.excerpt.waiting ++ [r] } } a .accepted
      (lo8 (s.excerpt.waiting.length + 1))
  else excerptAnswer s a .busy 0xFF

/-- An EXCERPT from an ENROLLED address (R190). -/
def excerptRequest (s : State) (a : Address) (preset start count : Byte) : State :=
  match excerptKindOf preset start count with
  | none => excerptAnswer s a .badField 0xFF
  | some k => admitExcerpt s a { requester := a, kind := k }

/-- EXCERPT (R190). -/
def execExcerpt (a : Address) (preset start count : Byte) (s : State) : Result :=
  request s a (notEnrolled s a .excerpt 0 0xFF 0) fun t => .next (excerptRequest t a preset start count)

/-! ### CLEAR_TRIP -/

/-- The answer to a CLEAR_TRIP: byte 3 carries the latched cause set after the request (R48, R163). -/
def clearAnswer (s : State) (a : Address) (code : AnswerCode) : State :=
  answer s a .clearTrip 0 code s.trip.latched.byte 0 0

/-- A CLEAR_TRIP from an ENROLLED address (R163). -/
def clearTripRequest (s : State) (a : Address) : State :=
  if !s.roster[a].configure then clearAnswer s a .classNotPermitted
  else if !s.trip.tripped then clearAnswer s a .accepted
  else if clearBlocked s then clearAnswer s a .tripCausePresent
  else clearAnswer (clearTrip s) a .accepted

/-- CLEAR_TRIP (R163). -/
def execClearTrip (a : Address) (s : State) : Result :=
  request s a (notEnrolled s a .clearTrip 0 0 0) fun t => .next (clearTripRequest t a)

/-! ### EXERCISE -/

/-- The state conditions of an EXERCISE on a channel (R146). -/
def exerciseStateOk (s : State) (c : Channel) : Bool :=
  s.vref = 0 && s.coord.state = .autoPark && !s.trip.tripped && electronic s c

/-- The effect of an accepted EXERCISE (R146). -/
def startExercise (s : State) (a : Address) (c : Channel) (m : ExerciseMode) : State :=
  { s with exercise := { s.exercise with
      running := true, owner := some a, channel := some c, mode := some m, next := .inlet, cycles := 0,
      wrapped := false } }

/-- The engine's checks of an EXERCISE on a permitted channel, in their order (R146). -/
def exerciseEngine (s : State) (a : Address) (c : Channel) (mode count : Byte) : State :=
  match exerciseModeOf mode count with
  | none => plainAnswer s a .exercise (lo8 c.val) .badField
  | some m =>
    if s.exercise.running then plainAnswer s a .exercise (lo8 c.val) .busy
    else if !exerciseStateOk s c then plainAnswer s a .exercise (lo8 c.val) .wrongState
    else plainAnswer (startExercise s a c m) a .exercise (lo8 c.val) .accepted

/-- An EXERCISE from an ENROLLED address (R36, R146). R36 gives its refusals no order; TEST permission is checked before the
channel number: DESIGN CHOICE, log entry 34. -/
def exerciseRequest (s : State) (a : Address) (channel mode count : Byte) : State :=
  if !permits s.roster[a].classes .test then plainAnswer s a .exercise channel .classNotPermitted
  else if h : channel.toNat < 6 then
    if s.roster[a].scope.getLsbD channel.toNat then exerciseEngine s a ⟨channel.toNat, h⟩ mode count
    else plainAnswer s a .exercise channel .scopeNotPermitted
  else plainAnswer s a .exercise channel .badField

/-- EXERCISE (R146). -/
def execExercise (a : Address) (channel mode count : Byte) (s : State) : Result :=
  request s a (notEnrolled s a .exercise channel 0 0) fun t => .next (exerciseRequest t a channel mode count)

/-- A refused EXERCISE_STOP: bytes 1, 3, 6 and 7 are 0 (R48). -/
def stopRefused (s : State) (a : Address) (code : AnswerCode) : State := answer s a .exerciseStop 0 code 0 0 0

/-- The channel of an exercise as a byte. -/
def Exercise.channelByte (x : Exercise) : Byte := lo8 (x.channel.elim 0 fun c => c.val)

/-- An accepted EXERCISE_STOP: the exercise ends STOP_REQUEST, and the sender gets the same channel, cycles and reason
(R148; log entry 14). -/
def acceptStop (s : State) (a : Address) : State :=
  answer (endExercise s .stopRequest) a .exerciseStop s.exercise.channelByte .accepted
    (reasonByte .stopRequest s.exercise.wrapped) (lo8 s.exercise.cycles) (hi8 s.exercise.cycles)

/-- An EXERCISE_STOP from an ENROLLED address (R36, R148). -/
def stopRequest (s : State) (a : Address) : State :=
  if !permits s.roster[a].classes .test then stopRefused s a .classNotPermitted
  else if !s.exercise.running then stopRefused s a .wrongState
  else acceptStop s a

/-- EXERCISE_STOP (R148). -/
def execExerciseStop (a : Address) (s : State) : Result :=
  request s a (notEnrolled s a .exerciseStop 0 0 0) fun t => .next (stopRequest t a)

end Sys2Proof.Machine
end

