-- ==== Sys2Proof/Machine/WheelEvents.lean ====
section
/-!
DEFINITION. The meanings of TOOTH_EDGE, TOOTH_TIMEOUT, SUSPECT_SET_EXPIRY and SUSPECT_CLEAR_EXPIRY (R90 to R97).
-/

namespace Sys2Proof.Machine

/-- A tooth edge: the channel's record, v_ref and its readers, then the coordinator (R90, R94; log entry 13). -/
def toothEdge (s : State) (c : Channel) : State :=
  coordinatorEdge
    (setWheel s c (s.wheel[c].edge s.clock.capture (s.settings.params.circumference (axleOf c))
      (s.settings.params.teeth (axleOf c)))) c

/-- TOOTH_EDGE (R90). -/
def execToothEdge (c : Channel) (s : State) : Result := .next (toothEdge s c)

/-- TOOTH_TIMEOUT (R91); without effect where the tooth timer is not due (log entry 1). -/
def execToothTimeout (c : Channel) (s : State) : Result :=
  .next (if s.wheel[c].toothDue s.clock.capture then setWheel s c s.wheel[c].timeout else s)

/-- SENSOR_SUSPECT is set: the channel returns to FOLLOW and leaves v_ref (R95, R108, R111). -/
def markSuspect (s : State) (c : Channel) : State :=
  setWheel { s with slip := s.slip.suspectSet c } c { s.wheel[c] with suspect := true, setTimer := none }

/-- SUSPECT_SET_EXPIRY (R95); without effect where the timer is not due (log entry 1). -/
def execSuspectSetExpiry (c : Channel) (s : State) : Result :=
  .next (if due s.wheel[c].setTimer s.clock.us then markSuspect s c else s)

/-- SENSOR_SUSPECT is cleared: the channel counts in v_ref again (R96). -/
def clearSuspect (s : State) (c : Channel) : State :=
  setWheel s c { s.wheel[c] with suspect := false, clearTimer := none }

/-- SUSPECT_CLEAR_EXPIRY (R96); without effect where the timer is not due (log entry 1). -/
def execSuspectClearExpiry (c : Channel) (s : State) : Result :=
  .next (if due s.wheel[c].clearTimer s.clock.us then clearSuspect s c else s)

end Sys2Proof.Machine
end

