-- ==== Sys2Proof/Machine/Dispatch.lean ====
section
/-!
DEFINITION. One arm per command: its meaning.
-/

namespace Sys2Proof.Machine

def exec (i : Instr) (s : State) : Host.Outcome State Fault Refusal :=
  match i with
  | .post a cls scope value lifetime options gate => Sys2Proof.Machine.execPost a cls scope value lifetime options gate s
  | .refresh a cls => Sys2Proof.Machine.execRefresh a cls s
  | .release a cls => Sys2Proof.Machine.execRelease a cls s
  | .excerpt a preset start count => Sys2Proof.Machine.execExcerpt a preset start count s
  | .setParam a id value => Sys2Proof.Machine.execSetParam a id value s
  | .setRoster a target state classes scope configure => Sys2Proof.Machine.execSetRoster a target state classes scope configure s
  | .store a => Sys2Proof.Machine.execStore a s
  | .clearTrip a => Sys2Proof.Machine.execClearTrip a s
  | .exercise a channel mode count => Sys2Proof.Machine.execExercise a channel mode count s
  | .exerciseStop a => Sys2Proof.Machine.execExerciseStop a s
  | .restart a => Sys2Proof.Machine.execRestart a s
  | .malformedFrame a lengthCode kind => Sys2Proof.Machine.execMalformedFrame a lengthCode kind s
  | .ignoredFrame why => Sys2Proof.Machine.execIgnoredFrame why s
  | .deadlineExpiry slot => Sys2Proof.Machine.execDeadlineExpiry slot s
  | .allocationPeriod => Sys2Proof.Machine.execAllocationPeriod s
  | .holdOverride => Sys2Proof.Machine.execHoldOverride s
  | .muteExpiry a => Sys2Proof.Machine.execMuteExpiry a s
  | .transmitStart => Sys2Proof.Machine.execTransmitStart s
  | .transmitComplete => Sys2Proof.Machine.execTransmitComplete s
  | .transmitFailure why => Sys2Proof.Machine.execTransmitFailure why s
  | .recoveryWaitExpiry => Sys2Proof.Machine.execRecoveryWaitExpiry s
  | .coldStart => Sys2Proof.Machine.execColdStart s
  | .debouncedLineChange line active => Sys2Proof.Machine.execDebouncedLineChange line active s
  | .debounceExpiry line => Sys2Proof.Machine.execDebounceExpiry line s
  | .driveRequestChange active => Sys2Proof.Machine.execDriveRequestChange active s
  | .ignitionChange active => Sys2Proof.Machine.execIgnitionChange active s
  | .brakeCutOutChange active => Sys2Proof.Machine.execBrakeCutOutChange active s
  | .toothEdge c => Sys2Proof.Machine.execToothEdge c s
  | .toothTimeout c => Sys2Proof.Machine.execToothTimeout c s
  | .suspectSetExpiry c => Sys2Proof.Machine.execSuspectSetExpiry c s
  | .suspectClearExpiry c => Sys2Proof.Machine.execSuspectClearExpiry c s
  | .conversionComplete raw => Sys2Proof.Machine.execConversionComplete raw s
  | .scanTriggerExpiry => Sys2Proof.Machine.execScanTriggerExpiry s
  | .watchTimerExpiry => Sys2Proof.Machine.execWatchTimerExpiry s
  | .modulationPeriodStart => Sys2Proof.Machine.execModulationPeriodStart s
  | .modulatorPulseStart c => Sys2Proof.Machine.execModulatorPulseStart c s
  | .modulatorPulseEnd c => Sys2Proof.Machine.execModulatorPulseEnd c s
  | .parkPulseEnd => Sys2Proof.Machine.execParkPulseEnd s
  | .confirmationWindowExpiry => Sys2Proof.Machine.execConfirmationWindowExpiry s
  | .retryTimerExpiry => Sys2Proof.Machine.execRetryTimerExpiry s
  | .stallTimerExpiry => Sys2Proof.Machine.execStallTimerExpiry s
  | .settleTimerExpiry => Sys2Proof.Machine.execSettleTimerExpiry s
  | .dwellExpiry => Sys2Proof.Machine.execDwellExpiry s
  | .quietWindowExpiry => Sys2Proof.Machine.execQuietWindowExpiry s
  | .withheldReleaseExpiry => Sys2Proof.Machine.execWithheldReleaseExpiry s
  | .springCycleEntryExpiry => Sys2Proof.Machine.execSpringCycleEntryExpiry s
  | .statusPeriodExpiry => Sys2Proof.Machine.execStatusPeriodExpiry s
  | .storeComplete => Sys2Proof.Machine.execStoreComplete s

end Sys2Proof.Machine
end

