-- ==== Sys2Proof/Machine/Timebase.lean ====
section
/-!
DEFINITION. What happens on an empty queue: the block's own due events, one at a time, or a tick of the time base
(00_scope Time; log entries 1, 3 and 4).
-/

namespace Sys2Proof.Machine

/-- A microsecond passes: the capture counter counts each, the millisecond counter each thousandth (00_scope Time). -/
def Clock.tick (k : Clock) : Clock :=
  { us := k.us + 1
    ms := if (k.us + 1) % 1000 = 0 then k.ms + 1 else k.ms
    capture := k.capture + 1 }

/-- A command listed where its condition holds. -/
def listIf (b : Bool) (c : Instr) : List Instr := if b then [c] else []

/-- The due events of the table, the roster and the port. -/
def dueTable (s : State) : List Instr :=
  ((List.finRange 32).filter fun i =>
      match s.table[i] with
      | some e => e.lapseDue s.clock.ms
      | none => false).map Instr.deadlineExpiry
    ++ listIf (due s.override.timer s.clock.us) .holdOverride
    ++ ((List.finRange 16).filter fun a => decide (s.roster[a].unmute s.clock.ms ≠ s.roster[a])).map Instr.muteExpiry
    ++ listIf s.port.chosen.isSome .transmitStart
    ++ listIf (due s.port.recovery s.clock.us) .recoveryWaitExpiry

/-- The due events of the lines and the wheels. -/
def dueSensors (s : State) : List Instr :=
  listIf (due s.door.timer s.clock.us) (.debounceExpiry .doorOpen)
    ++ listIf (due s.parkSwitch.timer s.clock.us) (.debounceExpiry .parkSwitch)
    ++ ((List.finRange 6).filter fun c => s.wheel[c].toothDue s.clock.capture).map Instr.toothTimeout
    ++ ((List.finRange 6).filter fun c => due s.wheel[c].setTimer s.clock.us).map Instr.suspectSetExpiry
    ++ ((List.finRange 6).filter fun c => due s.wheel[c].clearTimer s.clock.us).map Instr.suspectClearExpiry

/-- The conversion in flight is over. -/
def conversionDue (s : State) : Bool :=
  match s.sampling.scan with
  | some p => p.stop ≤ s.clock.us
  | none => false

/-- The formed pulse of a channel is to begin. -/
def pulseStartDue (s : State) (c : Channel) : Bool :=
  match s.valve.chan[c].waiting with
  | some p => p.start ≤ s.clock.us
  | none => false

/-- The pulse of a channel is over, its end not left to a period start that is due (R137). -/
def pulseEndDue (s : State) (c : Channel) : Bool :=
  match s.valve.chan[c].running with
  | some p => p.stop ≤ s.clock.us && p.stop != s.valve.timer
  | none => false

/-- The due events of allocation, sampling and the valves. -/
def duePeriods (s : State) : List Instr :=
  listIf (s.alloc.timer ≤ s.clock.us) .allocationPeriod
    ++ listIf (conversionDue s) (.conversionComplete (Config.rawInput s.draws))
    ++ listIf (due s.sampling.trigger s.clock.us) .scanTriggerExpiry
    ++ listIf (due s.sampling.watchTimer s.clock.us) .watchTimerExpiry
    ++ listIf (s.valve.timer ≤ s.clock.us) .modulationPeriodStart
    ++ ((List.finRange 6).filter fun c => pulseStartDue s c).map Instr.modulatorPulseStart
    ++ ((List.finRange 6).filter fun c => pulseEndDue s c).map Instr.modulatorPulseEnd
    ++ listIf (due s.park.pulseTimer s.clock.us) .parkPulseEnd
    ++ listIf (due s.park.confirmTimer s.clock.us) .confirmationWindowExpiry
    ++ listIf (due s.park.retryTimer s.clock.us) .retryTimerExpiry
    ++ listIf (due s.trip.stallTimer s.clock.us) .stallTimerExpiry

/-- The store timer is due. -/
def storeDue (s : State) : Bool :=
  match s.settings.store with
  | some j => j.stop ≤ s.clock.us
  | none => false

/-- The due events of the coordinator, the status broadcaster and the settings store. -/
def dueCoordinator (s : State) : List Instr :=
  listIf (due s.coord.settleTimer s.clock.us) .settleTimerExpiry
    ++ listIf (due s.coord.dwellTimer s.clock.us) .dwellExpiry
    ++ listIf (due s.coord.quietTimer s.clock.us) .quietWindowExpiry
    ++ listIf (due s.coord.withheldTimer s.clock.us) .withheldReleaseExpiry
    ++ listIf (cycleDue s.coord.springCycles s.clock.ms s.settings.params.cycleWindow) .springCycleEntryExpiry
    ++ listIf (s.status.timer ≤ s.clock.us) .statusPeriodExpiry
    ++ listIf (storeDue s) .storeComplete

/-- Every event of the block's own that is due now. -/
def dueEvents (s : State) : List Instr := dueTable s ++ dueSensors s ++ duePeriods s ++ dueCoordinator s

/-- The state with one more free value drawn. -/
def drawn (s : State) : State := { s with draws := s.draws + 1 }

/-- What the block does when no command waits: with nothing due, a microsecond passes; else one due event is taken, which
one being free when several are (log entries 1 and 3). -/
def idle (s : State) : Result :=
  match dueEvents s with
  | [] => .next { s with clock := s.clock.tick }
  | c :: rest => exec ((c :: rest).getD (Config.firstTaken s.draws % (c :: rest).length) c) (drawn s)

/-- The command at the front of the queue is taken, and the queue keeps the rest. -/
def takeFront (s : State) : Result :=
  match s.pending with
  | [] => idle s
  | c :: rest => exec c { s with pending := rest }

end Sys2Proof.Machine
end

