-- ==== Sys2Proof/Safety.lean ====
section
/-!
DEFINITION. What counts as safe, in the manual's terms: outputs never energised together, bounded queues and blends,
and runs without a stop.
-/

namespace Sys2Proof.Safety

open Sys2Proof.Machine

/-- The sender of a well-formed request; none for every other command (R32, R36). -/
def requester : Instr → Option Address
  | .post a _ _ _ _ _ _ => some a
  | .refresh a _ => some a
  | .release a _ => some a
  | .excerpt a _ _ _ => some a
  | .setParam a _ _ => some a
  | .setRoster a _ _ _ _ _ => some a
  | .store a => some a
  | .clearTrip a => some a
  | .exercise a _ _ _ => some a
  | .exerciseStop a => some a
  | .restart a => some a
  | _ => none

/-- A request from an address is answered: its sender's malformed count is 0, and beside it only the answer queue and the
count of answers dropped may differ in the roster and at the port (R33, R40, R42). -/
def answersSender (s t : State) (a : Address) : Prop :=
  t.roster = put s.roster a { s.roster[a] with malformed := 0 } ∧
  t.port = { s.port with answers := t.port.answers, answersDropped := t.port.answersDropped }

/-- A frame formed as an answer while the port is ONLINE joins the answer queue, or is dropped and counted with 8 waiting
(R42). -/
def queuesAnswer (s t : State) (f : Frame) : Prop :=
  (s.port.answers.length < 8 →
    t.port.answers = s.port.answers ++ [{ frame := f, restart := false }] ∧
    t.port.answersDropped = s.port.answersDropped) ∧
  (8 ≤ s.port.answers.length →
    t.port.answers = s.port.answers ∧ t.port.answersDropped = min 255 (s.port.answersDropped + 1))

/-- A run of some number of steps that never stops. -/
def runs : Nat → State → Option State
  | 0, s => some s
  | n + 1, s =>
    match step s with
    | .next t => runs n t
    | .fault _ => none
    | .refused _ => none

/-- No channel has its inlet and its exhaust energised together (R136). -/
def valvesApart (s : State) : Prop := ∀ c : Channel, ¬ (inletOn s c = true ∧ exhaustOn s c = true)

/-- The park coils are not energised together (R132). -/
def coilsApart (s : State) : Prop := ¬ (applyCoilOn s = true ∧ releaseCoilOn s = true)

/-- The commands at which a cold start can happen in a state: power-on, a RESTART that a full answer queue meets, the
completion of a frame that a pending restart waits for, and a failure that takes the port OFFLINE while it holds one
(R25, R201). -/
def startsCold (s : State) : Instr → Bool
  | .coldStart => true
  | .restart _ => 8 ≤ s.port.answers.length
  | .transmitComplete =>
      match s.port.tx with
      | some x => x.restart
      | none => false
  | .transmitFailure why => s.port.holdsRestart && 256 ≤ errorAfter s.port.errorCount why
  | _ => false

/-- The outputs are cut wherever R134 cuts them, TRIP stands in both cause sets while TRIPPED (R161), and both circuits
rest in SECURED (R153): the invariant under which no modulator valve is energised outside electronic control. -/
def outputsGated (s : State) : Prop :=
  (s.trip.tripped = true → ∀ k : CircuitId, s.circuit[k].causes.trip = true ∧ s.circuit[k].mode ≠ .electronic) ∧
  (s.coord.state = .secured → ∀ k : CircuitId, s.circuit[k].mode = .resting) ∧
  (∀ c : Channel, outputsCut s c = true → s.valve.chan[c].running = none ∧ s.valve.chan[c].waiting = none)

/-- The bounds the manual gives the queues (R42, R181, R190, R193). -/
def queuesBounded (s : State) : Prop :=
  s.port.answers.length ≤ 8 ∧ s.port.excerpts.length ≤ 2 ∧ s.excerpt.waiting.length ≤ 2 ∧
  s.coord.springCycles.length ≤ 16

/-- In SECURED the table holds only PARK entries (R24). -/
def securedParksOnly (s : State) : Prop :=
  s.coord.state = .secured → ∀ i : Slot, ∀ e, s.table[i] = some e → e.cls = .park

/-- No entry but an ACTIVE one has a deadline (R17). -/
def deadlinesOnActive (t : Table) : Prop := ∀ i : Slot, ∀ e, t[i] = some e → e.state ≠ .active → e.deadline = none

/-- The blend of every entry stays within 0 to 64 (R18). -/
def blendsBounded (t : Table) : Prop := ∀ i : Slot, ∀ e, t[i] = some e → e.blend ≤ 64

/-- Outside RESTING the mode of each circuit is what its cause set gives (R150). -/
def modesFollow (s : State) : Prop :=
  ∀ k : CircuitId, s.circuit[k].mode ≠ .resting →
    s.circuit[k].mode =
      if s.circuit[k].causes = { starting := false, trip := false, pressureInvalid := false, supplyInvalid := false,
                                 pedalLost := false } then .electronic else .fallback

/-- The sampling unit is in watch scan just in SECURED (R120, R123, R125). -/
def watchesSecured (s : State) : Prop := s.sampling.watchMode = decide (s.coord.state = .secured)

/-- Every target stays within Pmax of its axle (R76, R70, R87). -/
def targetsBounded (s : State) : Prop := ∀ c : Channel, s.alloc.target[c] ≤ s.settings.params.pmax (axleOf c)

/-- hold_min is at most hold_max, in the parameter set and in the image (R167). -/
def holdsOrdered (g : Settings) : Prop := g.params.holdMin ≤ g.params.holdMax ∧ g.image.params.holdMin ≤ g.image.params.holdMax

/-- A source and class may stand in a slot: the home slots hold their own keys, the EMERGENCY partition EMERGENCY entries of
bus sources, and the general partition their others (R1, R3, R16). -/
abbrev placed (i : Slot) (src : Source) (cls : DemandClass) : Prop :=
  (i = 0 ∧ src = 16 ∧ cls = .service) ∨ (i = 1 ∧ src = 17 ∧ cls = .hold) ∨ (i = 2 ∧ src = 18 ∧ cls = .park) ∨
  (i = 3 ∧ src = 19 ∧ cls = .hold) ∨ (i = 4 ∧ src = 19 ∧ cls = .park) ∨
  (5 ≤ i.val ∧ i.val ≤ 8 ∧ src.val < 16 ∧ cls = .emergency) ∨ (9 ≤ i.val ∧ src.val < 16 ∧ cls ≠ .emergency)

/-- Every key stands in its place, and none twice (R1, R2). -/
def keysInPlace (t : Table) : Prop :=
  (∀ (i : Slot) (e : Entry), t[i] = some e → placed i e.source e.cls) ∧
  (∀ (i j : Slot) (e f : Entry), t[i] = some e → t[j] = some f → e.source = f.source → e.cls = f.cls → i = j)

end Sys2Proof.Safety
end

