-- ==== Sys2Proof/Certificates/Slice0/Obligations.lean ====
section
/-!
DEFINITION. The statements about the model, each a Prop that names the rules it follows.
-/

open Sys2Proof Sys2Proof.Machine Sys2Proof.Safety

/-! ### Step, frames, requests that are not heard -/

/-- A step takes the command at the front of the queue and leaves the rest (log entry 1). -/
def Obligations.StepTakesFront : Prop :=
  ∀ (c : Instr) (rest : List Instr) (s : State), s.pending = c :: rest → step s = exec c { s with pending := rest }

/-- With no command waiting and nothing due, 1 µs passes on both counters and nothing else changes (00_scope Time; the
tick is the model's choice, log entries 1 and 2). -/
def Obligations.IdleTicks : Prop :=
  ∀ s : State, s.pending = [] → dueEvents s = [] →
    ∃ t, step s = .next t ∧ t = { s with clock := t.clock } ∧ t.clock.us = s.clock.us + 1 ∧
      t.clock.capture = s.clock.capture + 1 ∧
      t.clock.ms = (if (s.clock.us + 1) % 1000 = 0 then s.clock.ms + 1 else s.clock.ms)

/-- The frame written for a well-formed frame command is read back as that command, with every operand (R32, R47). -/
def Obligations.FramesDecodeBack : Prop :=
  ∀ (c : Instr) (f : BusFrame), c.wf = true → encodeFrame c = some f → decodeFrame f = c

/-- A request is not taken while the port is OFFLINE, and is dropped from a MUTED address: nothing changes
(R33, R45). -/
def Obligations.UnheardRequests : Prop :=
  ∀ (c : Instr) (a : Address) (s : State), requester c = some a →
    (s.port.online = false ∨ s.roster[a].state = .muted) → exec c s = .next s

/-- A request from an ABSENT address changes nothing but the answer queue: it is answered NOT_ENROLLED with its kind,
byte 3 0xFF, the room counts, and the class byte of a demand request; a full queue drops the answer and counts it
(R35, R42; that byte 3 is 0xFF for every kind, CLEAR_TRIP and EXERCISE_STOP among them, is the model's choice, log
entry 11). -/
def Obligations.AbsentRequests : Prop :=
  ∀ (c : Instr) (a : Address) (g : BusFrame) (s : State), requester c = some a → encodeFrame c = some g →
    s.port.online = true → s.roster[a].state = .absent →
    ∃ (t : State) (f : Frame), exec c s = .next t ∧ t = { s with port := t.port } ∧
      (s.port.answers.length < 8 →
        t.port = { s.port with answers := s.port.answers ++ [{ frame := f, restart := false }] }) ∧
      (8 ≤ s.port.answers.length →
        t.port = { s.port with answersDropped := min 255 (s.port.answersDropped + 1) }) ∧
      f.ident = BitVec.ofNat 11 (0x260 + a.val) ∧ f.b0 = g.b0 ∧ f.b2 = 2 ∧ f.b3 = 0xFF ∧
      f.b4 = BitVec.ofNat 8 (freeGeneral s.table) ∧
      f.b5 = BitVec.ofNat 8 (freeEmergency s.table
        + if freeGeneral s.table < s.settings.params.roomThreshold then 128 else 0) ∧
      (g.b0.toNat ≤ 3 → f.b1 = g.b1)

/-! ### Demand requests -/

/-- A POST of a new key of a class other than PARK that passes the checks of R37 creates its entry in the lowest vacant slot
of its partition, ACTIVE at blend 0 with its clamped value and its deadline; with no general slot vacant it changes no
entry, and with no EMERGENCY slot vacant, which R3 excludes, the model stops with a fault (log entry 10). Nothing changes but
that slot, the sender's malformed count and the answer queue (R3, R9, R10, R33, R37, R38). -/
def Obligations.PostCreates : Prop :=
  ∀ (a : Address) (cb sb life opts gate : Byte) (v : BitVec 16) (cls : DemandClass) (s : State),
    s.port.online = true → s.roster[a].state = .enrolled → classOf cb = some cls → cls ≠ .park →
    permits s.roster[a].classes cls = true → s.coord.state ≠ .securing → s.coord.state ≠ .secured →
    scopeOf sb ≠ 0#6 → within (scopeOf sb) s.roster[a].scope = true →
    findEntry s.table (busSource a) cls = none →
    (∀ i : Slot, firstVacant s.table (if cls = .emergency then emergencySlots else generalSlots) = some i →
      (cls = .test → s.settings.params.roomThreshold ≤ freeGeneral s.table) →
      ∃ (t : State) (e : Entry), exec (.post a cb sb v life opts gate) s = .next t ∧
        t = { s with roster := t.roster, table := t.table, port := t.port } ∧ answersSender s t a ∧
        t.table[i] = some e ∧ (∀ j : Slot, j ≠ i → t.table[j] = s.table[j]) ∧
        e.source.val = a.val ∧ e.cls = cls ∧ e.scope = scopeOf sb ∧ e.state = .active ∧ e.blend = 0 ∧
        e.value = some (min v.toNat (if cls = .hold then s.settings.params.holdMax else 800)) ∧
        (5 ≤ life.toNat → life.toNat ≤ 250 →
          e.lifetime = some (life.toNat * 20) ∧ e.deadline = some (s.clock.ms + BitVec.ofNat 32 (life.toNat * 20))) ∧
        e.policy = (if cls = .hold ∧ opts.getLsbD 0 = true then .freeze else .rampOut) ∧
        e.gate = (if (cls = .service ∨ cls = .hold) ∧ opts.getLsbD 1 = true then some gate else none)) ∧
    (cls ≠ .emergency → firstVacant s.table generalSlots = none →
      ∃ t : State, exec (.post a cb sb v life opts gate) s = .next t ∧
        t = { s with roster := t.roster, port := t.port } ∧ answersSender s t a) ∧
    (cls = .emergency → firstVacant s.table emergencySlots = none →
      exec (.post a cb sb v life opts gate) s = .fault .emergencyPartitionFull)

/-- A POST of a standing key replaces scope, value, lifetime, lapse policy and gate in place, each as R38 clamps it,
restarts the deadline and makes the entry ACTIVE, and its blend is kept; nothing changes but that slot, the sender's
malformed count and the answer queue (R11, R12, R38). -/
def Obligations.PostRenews : Prop :=
  ∀ (a : Address) (cb sb life opts gate : Byte) (v : BitVec 16) (cls : DemandClass) (i : Slot) (e : Entry) (s : State),
    s.port.online = true → s.roster[a].state = .enrolled → classOf cb = some cls → cls ≠ .park →
    permits s.roster[a].classes cls = true → s.coord.state ≠ .securing → s.coord.state ≠ .secured →
    scopeOf sb ≠ 0#6 → within (scopeOf sb) s.roster[a].scope = true →
    findEntry s.table (busSource a) cls = some (i, e) →
    ∃ (t : State) (e' : Entry), exec (.post a cb sb v life opts gate) s = .next t ∧
      t = { s with roster := t.roster, table := t.table, port := t.port } ∧ answersSender s t a ∧
      t.table[i] = some e' ∧ (∀ j : Slot, j ≠ i → t.table[j] = s.table[j]) ∧
      e'.source = e.source ∧ e'.cls = cls ∧ e'.scope = scopeOf sb ∧ e'.state = .active ∧ e'.blend = e.blend ∧
      e'.value = some (min v.toNat (if cls = .hold then s.settings.params.holdMax else 800)) ∧
      e'.policy = (if cls = .hold ∧ opts.getLsbD 0 = true then .freeze else .rampOut) ∧
      e'.gate = (if (cls = .service ∨ cls = .hold) ∧ opts.getLsbD 1 = true then some gate else none) ∧
      (∀ l : Nat, l = (if life.toNat = 0 ∨ 250 < life.toNat then 5000 else if life.toNat < 5 then 100
          else life.toNat * 20) →
        e'.lifetime = some l ∧ e'.deadline = some (s.clock.ms + BitVec.ofNat 32 l))

/-- The POST of the first PARK entry makes park wanted, and a RELEASED park valve starts an apply attempt at that event
(R19, R138, R139, R179). -/
def Obligations.ParkPostApplies : Prop :=
  ∀ (a : Address) (sb life opts gate : Byte) (v : BitVec 16) (i : Slot) (s : State),
    s.port.online = true → s.roster[a].state = .enrolled → permits s.roster[a].classes .park = true →
    s.roster[a].scope.getLsbD 2 = true → s.roster[a].scope.getLsbD 3 = true →
    anyPark s.table = false → firstVacant s.table generalSlots = some i → s.park.state = .released →
    ∃ (t : State) (e : Entry), exec (.post a 4 sb v life opts gate) s = .next t ∧
      t = { s with roster := t.roster, table := t.table, port := t.port, park := t.park, coord := t.coord } ∧
      answersSender s t a ∧
      t.table[i] = some e ∧ (∀ j : Slot, j ≠ i → t.table[j] = s.table[j]) ∧
      e.cls = .park ∧ e.scope = 0b001100#6 ∧ e.value = none ∧ e.blend = 64 ∧ e.policy = .freeze ∧ e.state = .active ∧
      t.park = { state := .applying, step := some .pulse, pulseTimer := some (s.clock.us + 150000), confirmTimer := none,
                 pulses := 1, wanted := true, applyPending := false, retryTimer := none, fault := s.park.fault,
                 withheld := false } ∧
      t.coord = { s.coord with watchOpen := false, withheldTimer := none }

/-- A REFRESH of an ACTIVE entry with a lifetime restarts its deadline and changes nothing else of it (R13). -/
def Obligations.RefreshRestarts : Prop :=
  ∀ (a : Address) (cb : Byte) (cls : DemandClass) (i : Slot) (e : Entry) (l : Nat) (s : State),
    s.port.online = true → s.roster[a].state = .enrolled → classOf cb = some cls →
    findEntry s.table (busSource a) cls = some (i, e) → e.state = .active → e.lifetime = some l →
    ∃ t : State, exec (.refresh a cb) s = .next t ∧
      t = { s with roster := t.roster, table := t.table, port := t.port } ∧ answersSender s t a ∧
      t.table[i] = some { e with deadline := some (s.clock.ms + BitVec.ofNat 32 l) } ∧
      (∀ j : Slot, j ≠ i → t.table[j] = s.table[j])

/-- A RELEASE makes a non-PARK entry RETIRING without a deadline, in whatever state it stood, its blend kept (R14). -/
def Obligations.ReleaseRetires : Prop :=
  ∀ (a : Address) (cb : Byte) (cls : DemandClass) (i : Slot) (e : Entry) (s : State),
    s.port.online = true → s.roster[a].state = .enrolled → classOf cb = some cls → cls ≠ .park →
    findEntry s.table (busSource a) cls = some (i, e) → e.state ≠ .retiring →
    ∃ t : State, exec (.release a cb) s = .next t ∧
      t = { s with roster := t.roster, table := t.table, port := t.port } ∧ answersSender s t a ∧
      t.table[i] = some { e with state := .retiring, deadline := none } ∧
      (∀ j : Slot, j ≠ i → t.table[j] = s.table[j])

/-- The RELEASE of the last PARK entry with the valve APPLIED: with the rear supply at the reserve or above and the rear
circuit ELECTRONIC a release attempt starts and its time joins the spring-cycle list; else RELEASE_WITHHELD is set and the
valve stays APPLIED (R14, R19, R140, R141, R181). -/
def Obligations.LastParkReleased : Prop :=
  ∀ (a : Address) (i : Slot) (e : Entry) (s : State),
    s.port.online = true → s.roster[a].state = .enrolled → findEntry s.table (busSource a) .park = some (i, e) →
    e.state ≠ .retiring → anyPark (put s.table i none) = false → s.park.state = .applied →
    ∃ t : State, exec (.release a 4) s = .next t ∧
      t = { s with roster := t.roster, table := t.table, port := t.port, park := t.park, coord := t.coord } ∧
      answersSender s t a ∧
      t.table[i] = none ∧ (∀ j : Slot, j ≠ i → t.table[j] = s.table[j]) ∧
      (if s.settings.params.releaseReserve ≤ supply s.sampling 1 ∧ s.circuit[1].mode = .electronic then
        t.park = { s.park with state := .releasing, step := some .pulse, pulseTimer := some (s.clock.us + 150000),
                               confirmTimer := none, retryTimer := none, applyPending := false, withheld := false,
                               wanted := false } ∧
        t.coord = { s.coord with airLow := false, withheldTimer := none, springCycles :=
          (if s.coord.springCycles.length < 16 then s.coord.springCycles else s.coord.springCycles.drop 1)
            ++ [s.clock.ms] }
      else
        t.park = { s.park with wanted := false, withheld := true } ∧
        t.coord = { s.coord with withheldTimer := t.coord.withheldTimer })

/-! ### Timers of the table and the roster -/

/-- A deadline that the time counter has reached, modulo 2^32, takes its ACTIVE entry to LAPSING under RAMP_OUT and to
FROZEN under FREEZE, without deadline, its blend kept, and nothing else changes, whatever stands at the owner's record or at
the port; the blend of a non-PARK entry so lapsed falls at the next allocation period by its ramp-out step, a frozen one
stands. An entry without a deadline, or in any other state, does not expire. A FROZEN entry revived by REFRESH or POST is
ACTIVE with a new deadline. No entry but an ACTIVE one has a deadline: so at reset, and every command keeps it (R17). -/
def Obligations.DeadlineLapses : Prop :=
  (∀ (i : Slot) (e : Entry) (s : State), s.table[i] = some e →
    (∀ d, e.state = .active → e.deadline = some d → (s.clock.ms - d).toNat < 2147483648 →
      ∃ t : State, exec (.deadlineExpiry i) s = .next t ∧ t = { s with table := t.table } ∧
        (∀ j : Slot, j ≠ i → t.table[j] = s.table[j]) ∧
        (e.policy = .rampOut → t.table[i] = some { e with state := .lapsing, deadline := none }) ∧
        (e.policy = .freeze → t.table[i] = some { e with state := .frozen, deadline := none }) ∧
        (t.alloc.timer ≤ t.clock.us → e.cls ≠ .park → ∃ u : State, exec .allocationPeriod t = .next u ∧
          (e.policy = .rampOut → u.table[i] = if e.blend ≤ rampOut e.cls then none else
            some { e with state := .lapsing, deadline := none, blend := e.blend - rampOut e.cls }) ∧
          (e.policy = .freeze → u.table[i] = some { e with state := .frozen, deadline := none }))) ∧
    (e.deadline = none ∨ e.state ≠ .active → exec (.deadlineExpiry i) s = .next s)) ∧
  (∀ (a : Address) (cb : Byte) (cls : DemandClass) (i : Slot) (e : Entry) (l : Nat) (s : State),
    s.port.online = true → s.roster[a].state = .enrolled → classOf cb = some cls →
    findEntry s.table (busSource a) cls = some (i, e) → e.state = .frozen → e.lifetime = some l →
    ∃ t : State, exec (.refresh a cb) s = .next t ∧
      t.table[i] = some { e with state := .active, deadline := some (s.clock.ms + BitVec.ofNat 32 l) }) ∧
  (∀ (a : Address) (cb sb life opts gate : Byte) (v : BitVec 16) (cls : DemandClass) (i : Slot) (e : Entry) (s : State),
    s.port.online = true → s.roster[a].state = .enrolled → classOf cb = some cls → cls ≠ .park →
    permits s.roster[a].classes cls = true → s.coord.state ≠ .securing → s.coord.state ≠ .secured →
    scopeOf sb ≠ 0#6 → within (scopeOf sb) s.roster[a].scope = true → 5 ≤ life.toNat → life.toNat ≤ 250 →
    findEntry s.table (busSource a) cls = some (i, e) → e.state = .frozen →
    ∃ (t : State) (e' : Entry), exec (.post a cb sb v life opts gate) s = .next t ∧ t.table[i] = some e' ∧
      e'.state = .active ∧ e'.deadline = some (s.clock.ms + BitVec.ofNat 32 (life.toNat * 20))) ∧
  deadlinesOnActive State.reset.table ∧
  (∀ (c : Instr) (s t : State), deadlinesOnActive s.table → exec c s = .next t → deadlinesOnActive t.table)

/-- When the hold-override timer expires, every FROZEN HOLD entry becomes RETIRING, every other entry stands, the flag is
set, and the armed flag and the timer are cleared (R21, R22). -/
def Obligations.HoldOverrideFires : Prop :=
  ∀ (x : Nat) (s : State), s.override.timer = some x → x ≤ s.clock.us →
    ∃ t : State, exec .holdOverride s = .next t ∧ t = { s with table := t.table, override := t.override } ∧
      t.override = { timer := none, armed := false, flag := true } ∧
      (∀ i : Slot, s.table[i] = none → t.table[i] = none) ∧
      (∀ (i : Slot) (e : Entry), s.table[i] = some e →
        t.table[i] = some (if e.cls = .hold ∧ e.state = .frozen then { e with state := .retiring, deadline := none } else e))

/-- A malformed frame from an ENROLLED address raises its count, the 16th mutes it for 1000 ms; one from a MUTED or ABSENT
address changes nothing, and an ignored frame changes nothing; a term that spells no such frame is refused, which is the
model's choice (R32, R33, R35; log entry 18). -/
def Obligations.BadFramesCounted : Prop :=
  (∀ (a : Address) (n : Fin 16) (k : Byte) (s : State), (Instr.malformedFrame a n k).wf = true → s.port.online = true →
    (s.roster[a].state = .enrolled → s.roster[a].malformed < 15 →
      exec (.malformedFrame a n k) s = .next { s with
        roster := put s.roster a { s.roster[a] with malformed := s.roster[a].malformed + 1 } }) ∧
    (s.roster[a].state = .enrolled → s.roster[a].malformed = 15 →
      exec (.malformedFrame a n k) s = .next { s with
        roster := put s.roster a { s.roster[a] with state := .muted, malformed := 16, muteTimer := some (s.clock.ms + 1000) } }) ∧
    (s.roster[a].state ≠ .enrolled → exec (.malformedFrame a n k) s = .next s)) ∧
  (∀ (r : IgnoredReason) (s : State), (Instr.ignoredFrame r).wf = true → exec (.ignoredFrame r) s = .next s) ∧
  (∀ (c : Instr) (s : State), c.wf = false → exec c s = .refused .illFormed)

/-- When the time counter reaches the mute timer of a MUTED record, the record becomes ENROLLED with count 0 and no timer,
and nothing else changes (R34). -/
def Obligations.MuteExpires : Prop :=
  ∀ (a : Address) (x : Ms) (s : State), s.roster[a].state = .muted → s.roster[a].muteTimer = some x →
    (s.clock.ms - x).toNat < 2147483648 →
    exec (.muteExpiry a) s = .next { s with
      roster := put s.roster a { s.roster[a] with state := .enrolled, malformed := 0, muteTimer := none } }

/-! ### Port and status -/

/-- The arbiter puts a pending frame of the lowest identifier into transmission, and nothing else changes (R43). -/
def Obligations.TransmitStarts : Prop :=
  ∀ s : State, s.port.online = true → s.port.tx = none → pendingFrames s.port ≠ [] →
    ∃ x : Transmission, x ∈ pendingFrames s.port ∧
      (∀ y ∈ pendingFrames s.port, x.frame.ident.toNat ≤ y.frame.ident.toNat) ∧
      exec .transmitStart s = .next { s with port := { s.port with tx := some x } }

/-- A transmission that completes takes its frame from its holder and lowers the error count, and nothing else changes but
the excerpt engine: the oldest answer of its identifier leaves the queue, whatever stands before it; a status frame gives
way to the one behind it; an excerpt frame leaves its queue, the engine fills the free places with its next frames, and END
completes the emission and starts the oldest request waiting. The frame bears no pending restart (R42, R43, R44, R191, R193;
that both free places are filled at a start, log entry 8, and that a frame no longer held leaves no holder, log entry 7,
are the model's choices). -/
def Obligations.FrameSent : Prop :=
  (∀ (f : Frame) (pre rest : List QueuedAnswer) (s : State),
    s.port.tx = some { holder := .answer, frame := f, restart := false, held := true } →
    s.port.answers = pre ++ { frame := f, restart := false } :: rest → (∀ q ∈ pre, q.frame.ident ≠ f.ident) →
    exec .transmitComplete s = .next { s with port :=
      { s.port with answers := pre ++ rest, tx := none, errorCount := s.port.errorCount - 1 } }) ∧
  (∀ (f : Frame) (k : Fin 3) (s : State),
    s.port.tx = some { holder := .status k, frame := f, restart := false, held := true } →
    exec .transmitComplete s = .next { s with port :=
      { s.port with
        status := put s.port.status k { current := s.port.status[k].behind, behind := none }
        tx := none, errorCount := s.port.errorCount - 1 } }) ∧
  (∀ (f : Frame) (rest : List Frame) (s : State),
    s.port.tx = some { holder := .excerpt, frame := f, restart := false, held := true } → s.port.excerpts = f :: rest →
    (∀ (e : Emission) (more : List Frame), f.b0 ≠ 5 → s.excerpt.emission = some e →
      more = ((emissionFrames e).drop e.placed).take (2 - rest.length) →
      exec .transmitComplete s = .next { s with
        port := { s.port with excerpts := rest ++ more, tx := none, errorCount := s.port.errorCount - 1 }
        excerpt := { s.excerpt with emission := some { e with placed := e.placed + more.length } } }) ∧
    (f.b0 = 5 → s.excerpt.waiting = [] →
      exec .transmitComplete s = .next { s with
        port := { s.port with excerpts := rest, tx := none, errorCount := s.port.errorCount - 1 }
        excerpt := { emission := none, waiting := [] } }) ∧
    (∀ (r : ExcerptRequest) (ws : List ExcerptRequest) (more : List Frame), f.b0 = 5 → s.excerpt.waiting = r :: ws →
      more = (emissionFrames { request := r, snapshot := snapshotOf s r.kind, placed := 0 }).take (2 - rest.length) →
      exec .transmitComplete s = .next { s with
        port := { s.port with excerpts := rest ++ more, tx := none, errorCount := s.port.errorCount - 1 }
        excerpt :=
          { emission := some { request := r, snapshot := snapshotOf s r.kind, placed := more.length }, waiting := ws } })) ∧
  (∀ (h : Holder) (f : Frame) (s : State),
    s.port.tx = some { holder := h, frame := f, restart := false, held := false } →
    exec .transmitComplete s =
      .next { s with port := { s.port with tx := none, errorCount := s.port.errorCount - 1 } })

/-- A failed frame stays pending in its holder, but that a status frame gives way to the one behind it. A lost arbitration
leaves the error count, a bus error adds 8, a missing acknowledgement adds 8 only below 128. At 256 the port goes OFFLINE:
every pending frame and excerpt is discarded and the 200 ms recovery wait starts, and where a frame so discarded is the answer
a restart waits for, the module starts cold at that event (R43, R44, R45, R193, R201; that a frame no longer held leaves no
holder is log entry 7). -/
def Obligations.FailureCounts : Prop :=
  ∀ (x : Transmission) (places : Vector StatusPlace 3) (s : State), s.port.tx = some x → s.port.errorCount < 256 →
    places = (match x.holder with
      | .status k =>
          if x.held = true ∧ s.port.status[k].behind ≠ none then
            put s.port.status k { current := s.port.status[k].behind, behind := none }
          else s.port.status
      | .answer => s.port.status
      | .excerpt => s.port.status) →
    exec (.transmitFailure .arbitrationLost) s =
      .next { s with port := { s.port with tx := none, status := places } } ∧
    (s.port.errorCount < 248 →
      exec (.transmitFailure .busError) s = .next { s with
        port := { s.port with tx := none, status := places, errorCount := s.port.errorCount + 8 } }) ∧
    (s.port.errorCount < 128 →
      exec (.transmitFailure .noAcknowledgement) s = .next { s with
        port := { s.port with tx := none, status := places, errorCount := s.port.errorCount + 8 } }) ∧
    (128 ≤ s.port.errorCount →
      exec (.transmitFailure .noAcknowledgement) s =
        .next { s with port := { s.port with tx := none, status := places } }) ∧
    (248 ≤ s.port.errorCount → x.restart = false → (∀ q ∈ s.port.answers, q.restart = false) →
      exec (.transmitFailure .busError) s = .next { s with
        port := { online := false, errorCount := 256, recovery := some (s.clock.us + 200000), answers := [],
                  status := Vector.replicate 3 { current := none, behind := none }, excerpts := [], tx := none,
                  answersDropped := s.port.answersDropped }
        excerpt := { emission := none, waiting := [] } }) ∧
    (248 ≤ s.port.errorCount → (x.restart = true ∨ ∃ q ∈ s.port.answers, q.restart = true) →
      exec (.transmitFailure .busError) s = exec .coldStart s)

/-- When the recovery wait has run, the port is ONLINE with error count 0 and nothing else changes (R46). -/
def Obligations.RejoinsBus : Prop :=
  ∀ (x : Nat) (s : State), s.port.recovery = some x → x ≤ s.clock.us →
    exec .recoveryWaitExpiry s =
      .next { s with port := { s.port with online := true, errorCount := 0, recovery := none } }

/-- A status period forms the three frames from the standing values, with the page after the last, restarts the timer at
the period of the standstill state and clears HOLD_OVERRIDE; ONLINE and with nothing in transmission the frames stand in
their places (R43, R50, R194, R195). -/
def Obligations.StatusFormed : Prop :=
  ∀ s : State, s.status.timer ≤ s.clock.us →
    ∃ t : State, exec .statusPeriodExpiry s = .next t ∧
      t = { s with port := t.port, status := t.status, override := t.override } ∧
      t.status.lastPage = s.status.lastPage + 1 ∧
      t.status.timer = s.clock.us + (if s.coord.state = .secured then 1000000 else 100000) ∧
      t.override = { s.override with flag := false } ∧
      t.port = { s.port with status := t.port.status } ∧
      (s.port.online = false → t.port.status = s.port.status) ∧
      (s.port.online = true → s.port.tx = none →
        t.port.status[0].current = some (statusA s) ∧
        t.port.status[1].current = some (statusB s (s.status.lastPage + 1)) ∧
        t.port.status[2].current = some (statusC s))

/-- An EXCERPT that passes its checks starts its emission at this event with the engine IDLE: the snapshot is taken, the
first two frames stand in the empty frame queue, and it is ACCEPTED at position 0. Behind an emission it joins the waiting
requests and is ACCEPTED at its place, 1 or 2, and with two waiting it is refused BUSY; the frame queue stands in both. One
that fails its checks is refused BAD_FIELD. A refused request leaves the engine unchanged (R48, R190, R191, R193; that both
places are filled at the start is the model's choice, log entry 8). -/
def Obligations.ExcerptStarts : Prop :=
  ∀ (a : Address) (b1 start count : Byte) (s : State), s.port.online = true → s.roster[a].state = .enrolled →
    ∃ (t : State) (f : Frame), exec (.excerpt a b1 start count) s = .next t ∧
      t = { s with roster := t.roster, port := t.port, excerpt := t.excerpt } ∧
      t.roster = put s.roster a { s.roster[a] with malformed := 0 } ∧
      t.port = { s.port with answers := t.port.answers, answersDropped := t.port.answersDropped,
                             excerpts := t.port.excerpts } ∧
      queuesAnswer s t f ∧ f.ident = BitVec.ofNat 11 (0x260 + a.val) ∧ f.b0 = 4 ∧ f.b1 = 0 ∧ f.b3 = 0xFF ∧ f.b7 = 0 ∧
      f.b4 = BitVec.ofNat 8 (freeGeneral s.table) ∧
      (∀ k : ExcerptKind, excerptKindOf b1 start count = some k →
        (s.excerpt.emission = none → f.b2 = 0 ∧ f.b6 = 0 ∧ (s.port.excerpts = [] →
          t.excerpt.waiting = s.excerpt.waiting ∧
          t.excerpt.emission = some { request := { requester := a, kind := k },
                                      snapshot := snapshotOf { s with roster := t.roster } k, placed := 2 } ∧
          t.port.excerpts = (emissionFrames { request := { requester := a, kind := k },
                                              snapshot := snapshotOf { s with roster := t.roster } k,
                                              placed := 0 }).take 2)) ∧
        (s.excerpt.emission ≠ none → s.excerpt.waiting.length < 2 →
          f.b2 = 0 ∧ f.b6 = BitVec.ofNat 8 (s.excerpt.waiting.length + 1) ∧ t.port.excerpts = s.port.excerpts ∧
          t.excerpt = { s.excerpt with waiting := s.excerpt.waiting ++ [{ requester := a, kind := k }] }) ∧
        (s.excerpt.emission ≠ none → 2 ≤ s.excerpt.waiting.length →
          f.b2 = 11 ∧ f.b6 = 0xFF ∧ t.port.excerpts = s.port.excerpts ∧ t.excerpt = s.excerpt)) ∧
      (excerptKindOf b1 start count = none →
        f.b2 = 5 ∧ f.b6 = 0xFF ∧ t.port.excerpts = s.port.excerpts ∧ t.excerpt = s.excerpt)

/-! ### Settings -/

/-- SET_PARAM by the checks of R197 in their order: a refused one changes nothing but the sender's malformed count and the
answer queue, and its answer carries the value in force. An accepted one of ids 1 to 40 writes its value and no other; a
lowered Pmax lowers the targets of its axle, a lowered hold_max acts on the table alone, and a changed cycle window drops the
entries older than it. An enable of ids 41 to 43 that finds its source active is its rise: it latches it and, in NORMAL, trips.
The scan-list group sets the selector, edits the selected record, or rewrites the list, which aborts the scan in flight and
starts one from record 0 (R36, R68 to R70, R116, R126 to R128, R161, R162, R181, R197). The premise on the modes says that
they follow the cause sets, which OutputsStayGated keeps, and so drive scan in AUTO_PARK. -/
def Obligations.SetParamWrites : Prop :=
  (∀ (a : Address) (id : Byte) (v : BitVec 16) (bad : Prop) (s : State),
    s.port.online = true → s.roster[a].state = .enrolled →
    (bad ↔ id.toNat = 0 ∨ 49 < id.toNat ∨ (1 ≤ id.toNat ∧ id.toNat ≤ 43 ∧ inRange id.toNat v.toNat = false) ∨
      (id.toNat = 21 ∧ v.toNat ≤ s.settings.params.slipOff) ∨ (id.toNat = 22 ∧ s.settings.params.slipOn ≤ v.toNat) ∨
      (id.toNat = 30 ∧ s.settings.params.holdMax < v.toNat) ∨ (id.toNat = 31 ∧ v.toNat < s.settings.params.holdMin) ∨
      (id.toNat = 44 ∧ 15 < v.toNat) ∨
      (id.toNat = 45 ∧ (v.toNat < 12 ∨ 16 < v.toNat ∨
        ∃ k : Fin 12, ∀ r : Fin 16, r.val < v.toNat → s.sampling.records[r].input ≠ k)) ∨
      (id.toNat = 46 ∧ (11 < v.toNat ∨ s.sampling.selector.val < s.sampling.length ∧
        ∃ k : Fin 12, k.val ≠ v.toNat ∧ ∀ r : Fin 16, r.val < s.sampling.length → r ≠ s.sampling.selector →
          s.sampling.records[r].input ≠ k)) ∨
      (id.toNat = 47 ∧ 1 < v.toNat) ∨
      (id.toNat = 48 ∧ (s.sampling.records[s.sampling.selector].input.val < 6 ∨
        s.sampling.records[s.sampling.selector].input = 11 ∨ 1000 < v.toNat ∨
        s.sampling.records[s.sampling.selector].high < v.toNat)) ∨
      (id.toNat = 49 ∧ (s.sampling.records[s.sampling.selector].input.val < 6 ∨
        v.toNat < s.sampling.records[s.sampling.selector].low ∨
        s.sampling.records[s.sampling.selector].input = 11 ∧ (v.toNat < 160 ∨ 400 < v.toNat) ∨
        s.sampling.records[s.sampling.selector].input ≠ 11 ∧ 1000 < v.toNat))) →
    s.roster[a].configure = false ∨ s.coord.state ≠ .autoPark ∨ s.settings.store ≠ none ∨ bad →
    ∃ (t : State) (f : Frame), exec (.setParam a id v) s = .next t ∧ t = { s with roster := t.roster, port := t.port } ∧
      answersSender s t a ∧ queuesAnswer s t f ∧ f.ident = BitVec.ofNat 11 (0x260 + a.val) ∧ f.b0 = 5 ∧ f.b1 = id ∧
      (s.roster[a].configure = false → f.b2 = 3) ∧
      (s.roster[a].configure = true → s.coord.state ≠ .autoPark → f.b2 = 10) ∧
      (s.roster[a].configure = true → s.coord.state = .autoPark → s.settings.store ≠ none → f.b2 = 11) ∧
      (s.roster[a].configure = true → s.coord.state = .autoPark → s.settings.store = none → f.b2 = 5) ∧
      (∀ j : Fin 43, id.toNat = j.val + 1 →
        f.b6 = BitVec.ofNat 8 s.settings.params[j] ∧ f.b7 = BitVec.ofNat 8 (s.settings.params[j] / 256)) ∧
      (id.toNat = 0 ∨ 49 < id.toNat → f.b6 = 0 ∧ f.b7 = 0)) ∧
  (∀ (a : Address) (id : Byte) (v : BitVec 16) (s : State),
    s.port.online = true → s.roster[a].state = .enrolled → s.roster[a].configure = true →
    s.coord.state = .autoPark → s.settings.store = none → 1 ≤ id.toNat → id.toNat ≤ 40 →
    inRange id.toNat v.toNat = true →
    (id.toNat = 21 → s.settings.params.slipOff < v.toNat) → (id.toNat = 22 → v.toNat < s.settings.params.slipOn) →
    (id.toNat = 30 → v.toNat ≤ s.settings.params.holdMax) → (id.toNat = 31 → s.settings.params.holdMin ≤ v.toNat) →
    (∀ k : CircuitId, decideMode s.circuit[k].mode s.circuit[k].causes = s.circuit[k].mode) →
    ∃ (t : State) (f : Frame), exec (.setParam a id v) s = .next t ∧
      t = { s with roster := t.roster, port := t.port, settings := t.settings, table := t.table
                   alloc := { s.alloc with target := t.alloc.target }
                   coord := { s.coord with springCycles := t.coord.springCycles } } ∧
      answersSender s t a ∧ queuesAnswer s t f ∧ f.b0 = 5 ∧ f.b1 = id ∧ f.b2 = 0 ∧ f.b6 = v.extractLsb' 0 8 ∧
      f.b7 = v.extractLsb' 8 8 ∧
      t.settings = { s.settings with params := t.settings.params } ∧
      (∀ j : Fin 43, t.settings.params[j] = if j.val + 1 = id.toNat then v.toNat else s.settings.params[j]) ∧
      (id.toNat ≠ 31 ∨ s.settings.params.holdMax ≤ v.toNat → t.table = s.table) ∧
      (∀ c : Channel, t.alloc.target[c] =
        if id.toNat = (axleOf c).val + 7 ∧ v.toNat < s.settings.params.pmax (axleOf c) then
          min s.alloc.target[c] v.toNat
        else s.alloc.target[c]) ∧
      t.coord.springCycles = (if id.toNat = 36 ∧ v.toNat ≠ s.settings.params.cycleWindow then
        s.coord.springCycles.filter (fun x => (s.clock.ms - x).toNat ≤ v.toNat * 1000)
      else s.coord.springCycles)) ∧
  (∀ (a : Address) (id : Byte) (v : BitVec 16) (risen : TripSet) (s : State),
    s.port.online = true → s.roster[a].state = .enrolled → s.roster[a].configure = true →
    s.coord.state = .autoPark → s.settings.store = none → 41 ≤ id.toNat → id.toNat ≤ 43 → v.toNat ≤ 1 →
    (∀ k : CircuitId, decideMode s.circuit[k].mode s.circuit[k].causes = s.circuit[k].mode) →
    risen =
      { cutLine := false
        undervolt := decide (id.toNat = 41 ∧ v.toNat = 1) && s.trip.active.undervolt && !s.settings.params.undervoltOn
        overpressure :=
          decide (id.toNat = 42 ∧ v.toNat = 1) && s.trip.active.overpressure && !s.settings.params.overpressureOn
        scanStall :=
          decide (id.toNat = 43 ∧ v.toNat = 1) && s.trip.active.scanStall && !s.settings.params.scanStallOn } →
    ∃ t : State, exec (.setParam a id v) s = .next t ∧ t.settings = { s.settings with params := t.settings.params } ∧
      (∀ j : Fin 43, t.settings.params[j] = if j.val + 1 = id.toNat then v.toNat else s.settings.params[j]) ∧
      (risen.undervolt = false → risen.overpressure = false → risen.scanStall = false →
        t = { s with roster := t.roster, port := t.port, settings := t.settings } ∧ answersSender s t a) ∧
      (risen.undervolt = true ∨ risen.overpressure = true ∨ risen.scanStall = true →
        t.trip = { s.trip with
          tripped := true
          latched := { cutLine := s.trip.latched.cutLine
                       undervolt := s.trip.latched.undervolt || risen.undervolt
                       overpressure := s.trip.latched.overpressure || risen.overpressure
                       scanStall := s.trip.latched.scanStall || risen.scanStall } } ∧
        (s.trip.tripped = false → ∀ k : CircuitId, t.circuit[k].causes = { s.circuit[k].causes with trip := true } ∧
          t.circuit[k].mode ≠ .electronic ∧ backupOn t k = false))) ∧
  (∀ (a : Address) (id : Byte) (v : BitVec 16) (g : Sampling) (r : PointRecord) (fresh : Vector InputItems 12) (s : State),
    s.port.online = true → s.roster[a].state = .enrolled → s.roster[a].configure = true →
    s.coord.state = .autoPark → s.settings.store = none → s.sampling.watchMode = false →
    r = s.sampling.records[s.sampling.selector] →
    fresh = mapAll s.sampling.inputs (fun _ x => { x with current := none, currentValid := none, allValid := none }) →
    (id.toNat = 44 ∧ (∃ n : Fin 16, n.val = v.toNat ∧ g = { s.sampling with selector := n })) ∨
      (id.toNat = 45 ∧ 12 ≤ v.toNat ∧ v.toNat ≤ 16 ∧
        (∀ k : Fin 12, ∃ q : Fin 16, q.val < v.toNat ∧ s.sampling.records[q].input = k) ∧
        g = { s.sampling with length := v.toNat, scan := some { record := 0, stop := s.clock.us + 125 }
                              inputs := fresh }) ∨
      (id.toNat = 46 ∧ (∃ (k : Fin 12) (r' : PointRecord), k.val = v.toNat ∧
        r' = (if r.input = k then r else { r with
          input := k, low := if k = 11 then 160 else 0, high := if k = 11 then 400 else 1000 }) ∧
        ((s.sampling.length ≤ s.sampling.selector.val ∧
            g = { s.sampling with records := put s.sampling.records s.sampling.selector r' }) ∨
          (s.sampling.selector.val < s.sampling.length ∧
            (∀ i : Fin 12, i ≠ k → ∃ q : Fin 16, q.val < s.sampling.length ∧ q ≠ s.sampling.selector ∧
              s.sampling.records[q].input = i) ∧
            g = { s.sampling with records := put s.sampling.records s.sampling.selector r'
                                  scan := some { record := 0, stop := s.clock.us + 125 }, inputs := fresh })))) ∨
      (id.toNat = 47 ∧ v.toNat ≤ 1 ∧ g = { s.sampling with
        records := put s.sampling.records s.sampling.selector { r with watch := decide (v.toNat = 1) } }) ∨
      (id.toNat = 48 ∧ 6 ≤ r.input.val ∧ r.input.val ≤ 10 ∧ v.toNat ≤ 1000 ∧ v.toNat ≤ r.high ∧ g = { s.sampling with
        records := put s.sampling.records s.sampling.selector { r with low := v.toNat } }) ∨
      (id.toNat = 49 ∧ 6 ≤ r.input.val ∧ r.low ≤ v.toNat ∧ (r.input = 11 → 160 ≤ v.toNat ∧ v.toNat ≤ 400) ∧
        (r.input ≠ 11 → v.toNat ≤ 1000) ∧ g = { s.sampling with
          records := put s.sampling.records s.sampling.selector { r with high := v.toNat } }) →
    ∃ (t : State) (f : Frame), exec (.setParam a id v) s = .next t ∧
      t = { s with roster := t.roster, port := t.port, sampling := g } ∧ answersSender s t a ∧ queuesAnswer s t f ∧
      f.b0 = 5 ∧ f.b1 = id ∧ f.b2 = 0 ∧ f.b6 = v.extractLsb' 0 8 ∧ f.b7 = v.extractLsb' 8 8)

/-- A lowering of hold_max lowers every HOLD value above it, in every state and from every source, and leaves state, blend
and deadline, and every other entry (R23). -/
def Obligations.HoldMaxLowers : Prop :=
  ∀ (a : Address) (v : BitVec 16) (s : State),
    s.port.online = true → s.roster[a].state = .enrolled → s.roster[a].configure = true →
    s.coord.state = .autoPark → s.settings.store = none → 100 ≤ v.toNat → s.settings.params.holdMin ≤ v.toNat →
    v.toNat < s.settings.params.holdMax → v.toNat ≤ 800 →
    (∀ k : CircuitId, decideMode s.circuit[k].mode s.circuit[k].causes = s.circuit[k].mode) →
    ∃ t : State, exec (.setParam a 31 v) s = .next t ∧
      t = { s with roster := t.roster, port := t.port, settings := t.settings, table := t.table } ∧ answersSender s t a ∧
      t.settings = { s.settings with params := t.settings.params } ∧
      (∀ j : Fin 43, j.val ≠ 30 → t.settings.params[j] = s.settings.params[j]) ∧
      t.settings.params.holdMax = v.toNat ∧
      (∀ i : Slot, s.table[i] = none → t.table[i] = none) ∧
      (∀ (i : Slot) (e : Entry), s.table[i] = some e →
        t.table[i] = some (if e.cls = .hold then { e with value := e.value.map fun x => min x v.toNat } else e))

/-- An accepted SET_ROSTER to ABSENT writes the empty record, removes the PARK entries of that address and makes its other
entries RETIRING; the entries of every other source stand (R20, R31). -/
def Obligations.RosterWithdrawn : Prop :=
  ∀ (a x b : Address) (cl sc cf : Byte) (s : State),
    s.port.online = true → s.roster[a].state = .enrolled → s.roster[a].configure = true →
    s.coord.state = .autoPark → s.settings.store = none →
    b ≠ x → s.roster[b].state ≠ .absent → s.roster[b].configure = true →
    ∃ t : State, exec (.setRoster a (BitVec.ofNat 8 x.val) 0 cl sc cf) s = .next t ∧
      t = { s with roster := t.roster, port := t.port, table := t.table, park := t.park, coord := t.coord } ∧
      t.roster[x] = { state := .absent, classes := 0, scope := 0, configure := false, malformed := 0,
                      muteTimer := none } ∧
      (∀ y : Address, y ≠ x → y ≠ a → t.roster[y] = s.roster[y]) ∧
      (a ≠ x → t.roster[a] = { s.roster[a] with malformed := 0 }) ∧
      t.port = { s.port with answers := t.port.answers, answersDropped := t.port.answersDropped } ∧
      (anyPark s.table = anyPark t.table → t.park = s.park ∧ t.coord = s.coord) ∧
      (∀ i : Slot, s.table[i] = none → t.table[i] = none) ∧
      (∀ (i : Slot) (e : Entry), s.table[i] = some e →
        t.table[i] =
          if e.source.val = x.val then
            (if e.cls = .park then none else some { e with state := .retiring, deadline := none })
          else some e)

/-- An accepted STORE copies the parameter set, the scan list and the roster into the image, whose checksum is not valid,
and starts the 400 ms store timer; it is not answered yet (R198, R199). -/
def Obligations.StoreStarts : Prop :=
  ∀ (a : Address) (s : State),
    s.port.online = true → s.roster[a].state = .enrolled → s.roster[a].configure = true → s.settings.store = none →
    ∃ t : State, exec (.store a) s = .next t ∧ t = { s with roster := t.roster, settings := t.settings } ∧
      t.roster = put s.roster a { s.roster[a] with malformed := 0 } ∧
      t.settings = { s.settings with image := t.settings.image,
                                     store := some { sender := a, stop := s.clock.us + 400000 } } ∧
      t.settings.image.valid = false ∧ t.settings.image.params = s.settings.params ∧
      t.settings.image.length = s.sampling.length ∧ t.settings.image.records = s.sampling.records ∧
      (∀ y : Address, t.settings.image.roster[y] =
        { enrolled := (match s.roster[y].state with | .absent => false | .enrolled => true | .muted => true)
          classes := s.roster[y].classes, scope := s.roster[y].scope, configure := s.roster[y].configure })

/-- When the store timer expires the image becomes valid, CONFIG_DEFAULTED is cleared, and the STORE is answered ACCEPTED
to its sender, or its answer discarded while OFFLINE (R45, R199). -/
def Obligations.StoreCompletes : Prop :=
  ∀ (j : StoreJob) (s : State), s.settings.store = some j → j.stop ≤ s.clock.us →
    ∃ t : State, exec .storeComplete s = .next t ∧ t = { s with settings := t.settings, port := t.port } ∧
      t.settings = { s.settings with image := { s.settings.image with valid := true }, configDefaulted := false,
                                     store := none } ∧
      (s.port.online = false → t.port = s.port) ∧
      (s.port.online = true → s.port.answers.length < 8 → ∃ f : Frame,
        t.port = { s.port with answers := s.port.answers ++ [{ frame := f, restart := false }] } ∧
        f.ident = BitVec.ofNat 11 (0x260 + j.sender.val) ∧ f.b0 = 7 ∧ f.b2 = 0)

/-- A CLEAR_TRIP in TRIPPED: with no latched source active and enabled the trip is cleared, TRIP leaves both cause sets and
each circuit that is not RESTING takes the mode of its cause set, its backup valve energised just when that is ELECTRONIC; the
targets of a circuit that returns to ELECTRONIC become the measured pressures, at most Pmax, and no other target changes. Else
it is refused and nothing is cleared (R87, R133, R150, R163). -/
def Obligations.TripCleared : Prop :=
  ∀ (a : Address) (s : State),
    s.port.online = true → s.roster[a].state = .enrolled → s.roster[a].configure = true → s.trip.tripped = true →
    (clearBlocked s = false → ∃ t : State, exec (.clearTrip a) s = .next t ∧
      t.trip = { s.trip with tripped := false
                             latched := { cutLine := false, undervolt := false, overpressure := false,
                                          scanStall := false } } ∧
      (∀ k : CircuitId, t.circuit[k].causes = { s.circuit[k].causes with trip := false } ∧
        t.circuit[k].mode = (if s.circuit[k].mode = .resting then .resting
          else if t.circuit[k].causes = { starting := false, trip := false, pressureInvalid := false,
                                          supplyInvalid := false, pedalLost := false } then .electronic
          else .fallback) ∧
        (backupOn t k = true ↔ t.circuit[k].mode = .electronic)) ∧
      (∀ c : Channel, t.alloc.target[c] =
        if s.circuit[circuitOf c].mode ≠ .electronic ∧ t.circuit[circuitOf c].mode = .electronic then
          min (measured s.sampling c) (s.settings.params.pmax (axleOf c))
        else s.alloc.target[c]) ∧
      t.settings = s.settings ∧ t.wheel = s.wheel ∧ t.vref = s.vref ∧ t.sampling = s.sampling ∧ t.lines = s.lines ∧
      t.clock = s.clock ∧ t.excerpt = s.excerpt ∧ t.status = s.status ∧ t.override = s.override) ∧
    (clearBlocked s = true → ∃ t : State, exec (.clearTrip a) s = .next t ∧
      t = { s with roster := t.roster, port := t.port } ∧ answersSender s t a ∧
      (s.port.answers.length < 8 → ∃ f : Frame,
        t.port.answers = s.port.answers ++ [{ frame := f, restart := false }] ∧ f.b2 = 12))

/-- An accepted EXERCISE sets the engine RUNNING with owner, channel and mode, cycles 0, WRAPPED clear and next direction
APPLY, and changes nothing else but the sender's malformed count and the answer queue (R36, R146). -/
def Obligations.ExerciseStarts : Prop :=
  ∀ (a : Address) (c : Channel) (m n : Byte) (x : ExerciseMode) (s : State),
    s.port.online = true → s.roster[a].state = .enrolled → permits s.roster[a].classes .test = true →
    s.roster[a].scope.getLsbD c.val = true → exerciseModeOf m n = some x → s.exercise.running = false →
    s.vref = 0 → s.coord.state = .autoPark → s.trip.tripped = false → s.circuit[circuitOf c].mode = .electronic →
    ∃ t : State, exec (.exercise a (BitVec.ofNat 8 c.val) m n) s = .next t ∧
      t = { s with roster := t.roster, port := t.port, exercise := t.exercise } ∧ answersSender s t a ∧
      t.exercise = { running := true, owner := some a, channel := some c, mode := some x,
                     owning := s.exercise.owning, next := .inlet, cycles := 0, wrapped := false }

/-- An EXERCISE_STOP from a source with TEST permission ends a running exercise: the engine is IDLE, and two answers join a
queue with room for them, the EXERCISE_DONE for the owner and the answer to the sender (R48, R148; their order is the
model's, log entry 14). -/
def Obligations.ExerciseStops : Prop :=
  ∀ (a o : Address) (c : Channel) (s : State),
    s.port.online = true → s.roster[a].state = .enrolled → permits s.roster[a].classes .test = true →
    s.exercise.running = true → s.exercise.owner = some o → s.exercise.channel = some c →
    s.port.answers.length ≤ 6 →
    ∃ (t : State) (f g : Frame), exec (.exerciseStop a) s = .next t ∧
      t = { s with roster := t.roster, port := t.port, exercise := { s.exercise with running := false } } ∧
      answersSender s t a ∧
      t.port.answers = s.port.answers ++ [{ frame := f, restart := false }, { frame := g, restart := false }] ∧
      f.ident = BitVec.ofNat 11 (0x260 + o.val) ∧ f.b0 = 12 ∧ f.b1 = BitVec.ofNat 8 c.val ∧ f.b2 = 0 ∧
      g.ident = BitVec.ofNat 11 (0x260 + a.val) ∧ g.b0 = 10 ∧ g.b1 = f.b1 ∧ g.b2 = 0 ∧ g.b3 = f.b3 ∧ g.b6 = f.b6 ∧
      g.b7 = f.b7

/-- An accepted RESTART is answered at once, and the restart is pending on that answer (R201). -/
def Obligations.RestartPends : Prop :=
  ∀ (a : Address) (s : State),
    s.port.online = true → s.roster[a].state = .enrolled → s.roster[a].configure = true → s.vref = 0 →
    s.settings.store = none → s.settings.restartPending = false → s.port.answers.length < 8 →
    ∃ (t : State) (f : Frame), exec (.restart a) s = .next t ∧
      t = { s with roster := put s.roster a { s.roster[a] with malformed := 0 }
                   settings := { s.settings with restartPending := true }
                   port := { s.port with answers := s.port.answers ++ [{ frame := f, restart := true }] } } ∧
      f.b0 = 11 ∧ f.b2 = 0

/-! ### Cold start, lines, ignition -/

/-- A cold start whatever stands before it and however the lines stand. The parameters, the scan list and the roster are the
image's or, where its checksum is not valid, the factory's, and a scan of that list starts. Every block holds its cold-start
record. The table holds slot 0, slot 4, slot 1 with the door OPEN and slot 2 with the park switch ON; the park valve has begun
an apply attempt, and both circuits are FALLBACK with STARTING. With the cut-out active CUT_LINE trips the module at that
event. With the ignition on the coordinator stands in AUTO_PARK with its window running and slot 3 vacant; with it off it
enters SECURING at that event with slot 3 at hold_max (R25, R29, R46, R53, R114, R138, R150, R156, R157, R166, R183, R189,
R200, and the cold-start columns of R21, R55, R89, R100, R118, R137, R146, R191, R194). That no frame is left in transmission
is the model's choice (log entry 7). -/
def Obligations.ColdStarts : Prop :=
  ∀ (p : Params) (n : Nat) (records : Vector PointRecord 16) (valid : Bool) (s : State), valid = s.settings.image.valid →
    p = (if valid = true then s.settings.image.params else factoryParams) →
    n = (if valid = true then s.settings.image.length else 12) →
    records = (if valid = true then s.settings.image.records else factoryRecords) →
    ∃ t : State, exec .coldStart s = .next t ∧ t.pending = s.pending ∧ t.lines = s.lines ∧ t.clock.us = s.clock.us ∧
      t.settings = { params := p, image := s.settings.image, configDefaulted := !valid, store := none,
                     restartPending := false } ∧
      (∀ a : Address, t.roster[a] =
        (if valid = true then
          { state := if s.settings.image.roster[a].enrolled = true then .enrolled else .absent
            classes := s.settings.image.roster[a].classes, scope := s.settings.image.roster[a].scope
            configure := s.settings.image.roster[a].configure, malformed := 0, muteTimer := none }
        else if a = 15 then
          { state := .enrolled, classes := 0b10000#5, scope := 0b111111#6, configure := true, malformed := 0,
            muteTimer := none }
        else { state := .absent, classes := 0#5, scope := 0#6, configure := false, malformed := 0, muteTimer := none })) ∧
      t.sampling =
        { records := records, length := n, selector := 0
          inputs := Vector.replicate 12
            { standing := none, standingValid := none, current := none, currentValid := none, allValid := none }
          watchMode := false
          scan := if 1 ≤ n then some { record := 0, stop := s.clock.us + 125 } else none
          trigger := some (s.clock.us + 2000), watchTimer := none, overrun := 0 } ∧
      (∀ i : Slot, 5 ≤ i.val → t.table[i] = none) ∧ t.table[(0 : Slot)] = some pedalEntry ∧
      t.table[(1 : Slot)] = (if s.door.raw = true then some
        { source := 17, cls := .hold, scope := 0b111111#6, value := some (min p.doorHold p.holdMax), lifetime := none,
          deadline := none, policy := .rampOut, gate := some 30, state := .active, blend := 0 } else none) ∧
      t.table[(2 : Slot)] = (if s.parkSwitch.raw = true then some
        { source := 18, cls := .park, scope := 0b001100#6, value := none, lifetime := none, deadline := none,
          policy := .freeze, gate := none, state := .active, blend := 64 } else none) ∧
      t.table[(4 : Slot)] = some
        { source := 19, cls := .park, scope := 0b001100#6, value := none, lifetime := none, deadline := none,
          policy := .freeze, gate := none, state := .active, blend := 64 } ∧
      t.port = { online := true, errorCount := 0, recovery := none, answers := []
                 status := Vector.replicate 3 { current := none, behind := none }, excerpts := [], tx := none
                 answersDropped := 0 } ∧
      t.excerpt = { emission := none, waiting := [] } ∧ t.status = { timer := s.clock.us + 100000, lastPage := 1 } ∧
      t.override = { timer := none, armed := true, flag := false } ∧
      t.pedal = { travel := none, disagreeRun := 0, agreeRun := 0, disagree := false, single := false, lost := false } ∧
      t.pedalRun = 0 ∧ t.door = { raw := s.door.raw, state := s.door.raw, timer := none } ∧
      t.parkSwitch = { raw := s.parkSwitch.raw, state := s.parkSwitch.raw, timer := none } ∧ t.doorOpenMoving = false ∧
      t.alloc = { timer := s.clock.us + 10000, target := Vector.replicate 6 0, supplyLimited := Vector.replicate 6 false } ∧
      (∀ c : Channel, t.wheel[c] = { lastCapture := none, interval := none, toothTimer := none, speed := 0,
                                     suspect := false, setTimer := none, clearTimer := none }) ∧
      t.vref = 0 ∧
      t.slip = { group := Vector.replicate 5 { phase := .follow, dump := 0, hold := 0 }, reapply := Vector.replicate 6 0,
                 fault := Vector.replicate 6 false, tlJoined := true, trJoined := true } ∧
      t.valve.timer = s.clock.us + p.modulationPeriod * 1000 ∧
      (∀ c : Channel, t.valve.chan[c] = { buffer := { dir := .hold, duty := 0 }, active := { dir := .hold, duty := 0 },
                                          last := none, waiting := none, running := none }) ∧
      t.exercise = { running := false, owner := none, channel := none, mode := none, owning := none, next := .inlet,
                     cycles := 0, wrapped := false } ∧
      t.park = { state := .applying, step := some .pulse, pulseTimer := some (s.clock.us + 150000), confirmTimer := none,
                 pulses := 1, wanted := true, applyPending := false, retryTimer := none, fault := false,
                 withheld := false } ∧
      (∀ k : CircuitId, t.circuit[k] =
        { mode := .fallback
          causes := { starting := true, trip := s.lines.cutOut, pressureInvalid := false, supplyInvalid := false,
                      pedalLost := false }
          pressureRun := 0, supplyRun := 0 }) ∧
      t.trip =
        { tripped := s.lines.cutOut
          latched := { cutLine := s.lines.cutOut, undervolt := false, overpressure := false, scanStall := false }
          active := { cutLine := s.lines.cutOut, undervolt := false, overpressure := false, scanStall := false }
          undervoltRun := 0, overpressure := Vector.replicate 6 0, stallTimer := some (s.clock.us + 6000) } ∧
      t.coord =
        { state := if s.lines.ignition = true then .autoPark else .securing
          settleTimer := none, settled := false, dwellTimer := none
          quietTimer := if s.lines.ignition = true then some (s.clock.us + p.quietWindow * 1000000) else none
          armed := true, edges := Vector.replicate 6 0, ignitionOffPending := false, watchOpen := false
          withheldTimer := none, springCycles := [], promotionRefused := 0, airLow := false, rollingSecured := false
          rolling := Vector.replicate 6 [] } ∧
      (s.lines.ignition = true → t.table[(3 : Slot)] = none) ∧
      (s.lines.ignition = false → p.holdMin ≤ p.holdMax → t.table[(3 : Slot)] = some
        { source := 19, cls := .hold, scope := 0b111111#6, value := some p.holdMax, lifetime := none, deadline := none,
          policy := .rampOut, gate := none, state := .active, blend := 0 })

/-- A debounced line that changes to the level opposite its debounced state starts its 50 ms timer, and one that changes
back discards it; the debounced state stands (R52). -/
def Obligations.DebounceStarts : Prop :=
  ∀ (active : Bool) (s : State),
    (s.door.raw ≠ active → exec (.debouncedLineChange .doorOpen active) s = .next { s with door :=
      { raw := active, state := s.door.state,
        timer := if active = s.door.state then none else some (s.clock.us + 50000) } }) ∧
    (s.parkSwitch.raw ≠ active → exec (.debouncedLineChange .parkSwitch active) s = .next { s with parkSwitch :=
      { raw := active, state := s.parkSwitch.state,
        timer := if active = s.parkSwitch.state then none else some (s.clock.us + 50000) } })

/-- At the end of the door's debounce outside SECURING and SECURED, CLOSED to OPEN posts slot 1 with the door hold over all
channels, gate 30, at blend 0 when it was vacant and from the blend it has when it was RETIRING, and sets DOOR_OPEN_MOVING
above 3.0 km/h; OPEN to CLOSED makes an ACTIVE slot 1 RETIRING. At the end of the park switch's, OFF to ON posts the PARK entry
of slot 2, at which park becomes wanted where it was the first, and ON to OFF removes it, at which park ceases to be wanted
where it was the last. In SECURING and SECURED the debounced state follows the line and nothing else acts (R19, R52, R54, R61
to R63, R138, R140). -/
def Obligations.DoorPostsHold : Prop :=
  (∀ (x : Nat) (s : State), s.door.timer = some x → x ≤ s.clock.us → s.coord.state ≠ .securing →
    s.coord.state ≠ .secured →
    (s.door.raw = true → s.door.state = false → s.table[(1 : Slot)] = none →
      exec (.debounceExpiry .doorOpen) s = .next { s with
        door := { raw := true, state := true, timer := none }
        doorOpenMoving := decide (30 < s.vref)
        table := put s.table 1 (some
          { source := 17, cls := .hold, scope := 0b111111#6,
            value := some (min s.settings.params.doorHold s.settings.params.holdMax), lifetime := none, deadline := none,
            policy := .rampOut, gate := some 30, state := .active, blend := 0 }) }) ∧
    (∀ e : Entry, s.door.raw = true → s.door.state = false → s.table[(1 : Slot)] = some e → e.state = .retiring →
      exec (.debounceExpiry .doorOpen) s = .next { s with
        door := { raw := true, state := true, timer := none }
        doorOpenMoving := decide (30 < s.vref)
        table := put s.table 1 (some { e with
          scope := 0b111111#6, value := some (min s.settings.params.doorHold s.settings.params.holdMax), lifetime := none
          deadline := none, policy := .rampOut, gate := some 30, state := .active }) }) ∧
    (∀ e : Entry, s.door.raw = false → s.door.state = true → s.table[(1 : Slot)] = some e → e.cls = .hold →
      e.state = .active →
      exec (.debounceExpiry .doorOpen) s = .next { s with
        door := { raw := false, state := false, timer := none }
        doorOpenMoving := false
        table := put s.table 1 (some { e with state := .retiring, deadline := none }) })) ∧
  (∀ (x : Nat) (s : State), s.parkSwitch.timer = some x → x ≤ s.clock.us → s.coord.state ≠ .securing →
    s.coord.state ≠ .secured →
    (s.parkSwitch.raw = true → s.parkSwitch.state = false → s.table[(2 : Slot)] = none →
      ∃ t : State, exec (.debounceExpiry .parkSwitch) s = .next t ∧
        t = { s with
          parkSwitch := { raw := true, state := true, timer := none }, park := t.park, coord := t.coord
          table := put s.table 2 (some
            { source := 18, cls := .park, scope := 0b001100#6, value := none, lifetime := none, deadline := none,
              policy := .freeze, gate := none, state := .active, blend := 64 }) } ∧
        (anyPark s.table = true → t.park = s.park ∧ t.coord = s.coord) ∧
        (anyPark s.table = false → t.coord = { s.coord with watchOpen := false, withheldTimer := none } ∧
          (s.park.state = .applied ∨ s.park.state = .applying →
            t.park = { s.park with wanted := true, withheld := false }) ∧
          (s.park.state = .released ∨ s.park.state = .parkFault →
            t.park = { s.park with state := .applying, step := some .pulse, pulses := 1, wanted := true, withheld := false,
                                   pulseTimer := some (s.clock.us + 150000), confirmTimer := none, retryTimer := none,
                                   applyPending := false }) ∧
          (s.park.state = .releasing → s.park.step = some .pulse →
            t.park = { s.park with wanted := true, withheld := false, applyPending := true }))) ∧
    (∀ e : Entry, s.parkSwitch.raw = false → s.parkSwitch.state = true → s.table[(2 : Slot)] = some e → e.cls = .park →
      e.state = .active →
      ∃ t : State, exec (.debounceExpiry .parkSwitch) s = .next t ∧
        t = { s with
          parkSwitch := { raw := false, state := false, timer := none }, park := t.park, coord := t.coord
          table := put s.table 2 none } ∧
        (anyPark (put s.table 2 none) = true → t.park = s.park ∧ t.coord = s.coord) ∧
        (anyPark (put s.table 2 none) = false →
          (s.park.state ≠ .applied → t.park = { s.park with wanted := false } ∧ t.coord = s.coord) ∧
          (s.park.state = .applied → s.settings.params.releaseReserve ≤ supply s.sampling 1 →
            s.circuit[1].mode = .electronic →
            t.park = { s.park with state := .releasing, step := some .pulse, pulseTimer := some (s.clock.us + 150000),
                                   confirmTimer := none, retryTimer := none, applyPending := false, withheld := false,
                                   wanted := false } ∧
            t.coord = { s.coord with airLow := false, withheldTimer := none, springCycles :=
              (if s.coord.springCycles.length < 16 then s.coord.springCycles else s.coord.springCycles.drop 1)
                ++ [s.clock.ms] }) ∧
          (s.park.state = .applied →
            supply s.sampling 1 < s.settings.params.releaseReserve ∨ s.circuit[1].mode ≠ .electronic →
            t.park = { s.park with wanted := false, withheld := true } ∧
            t.coord = { s.coord with withheldTimer := t.coord.withheldTimer })))) ∧
  (∀ (x : Nat) (s : State), s.coord.state = .securing ∨ s.coord.state = .secured → x ≤ s.clock.us →
    (s.door.timer = some x → exec (.debounceExpiry .doorOpen) s = .next { s with
      door := { raw := s.door.raw, state := s.door.raw, timer := none }, doorOpenMoving := false }) ∧
    (s.parkSwitch.timer = some x → exec (.debounceExpiry .parkSwitch) s = .next { s with
      parkSwitch := { raw := s.parkSwitch.raw, state := s.parkSwitch.raw, timer := none } }))

/-- A drive request at standstill in AUTO_PARK with the foot off, the springs APPLIED, slot 4 the only PARK entry and slot 3
vacant, makes the drive-off: slot 4 is removed, the state becomes RUN, the release watch opens, and with the air and the
rear circuit in order the valve starts its release attempt at that event (R140, R141, R169, R178, R179). -/
def Obligations.DriveOffReleases : Prop :=
  ∀ (e : Entry) (x : Nat) (s : State), s.lines.drive = false → s.coord.state = .autoPark → s.exercise.running = false →
    s.pedal.travel = some x → x ≤ 50 → s.vref = 0 → s.table[(4 : Slot)] = some e → e.cls = .park → e.state = .active →
    anyPark (put s.table 4 none) = false → s.table[(3 : Slot)] = none → s.park.state = .applied →
    s.settings.params.releaseReserve ≤ supply s.sampling 1 → s.circuit[1].mode = .electronic →
    ∃ t : State, exec (.driveRequestChange true) s = .next t ∧
      t = { s with lines := { s.lines with drive := true }, override := t.override, coord := t.coord, park := t.park,
                   table := put s.table 4 none } ∧
      t.override = { s.override with timer := t.override.timer } ∧
      t.coord = { s.coord with
        state := .run, settleTimer := some (s.clock.us + s.settings.params.settleTime * 1000), settled := false,
        dwellTimer := none, quietTimer := none, watchOpen := true, withheldTimer := none, rollingSecured := false,
        airLow := false
        springCycles :=
          (if s.coord.springCycles.length < 16 then s.coord.springCycles else s.coord.springCycles.drop 1)
            ++ [s.clock.ms] } ∧
      t.park = { s.park with state := .releasing, step := some .pulse, pulseTimer := some (s.clock.us + 150000),
                             confirmTimer := none, retryTimer := none, applyPending := false, withheld := false,
                             wanted := false }

/-- The ignition going off at standstill in AUTO_PARK with the springs not APPLIED enters SECURING: slots 3 and 4 stand
posted, slot 3 at hold_max over all channels, the coordinator's timers and the release watch are discarded, and
DOOR_OPEN_MOVING is cleared. With the springs APPLIED securing completes at the same event: SECURED, the table purged to its
PARK entries, both circuits RESTING, watch scan, the stall timer stopped, the 1000 ms status period, and the rolling record
emptied. With v_ref above 0 the ignition going off is only pending, its going on again withdraws that, and the tooth timeout
that brings v_ref to 0 enters SECURING (R24, R62, R123, R153, R160, R182, R183, R184, R194;
that it comes before a drive-off at that event is the model's choice, log entry 13). -/
def Obligations.IgnitionOffSecures : Prop :=
  (∀ s : State, s.lines.ignition = true → s.coord.state = .autoPark → s.exercise.running = false → s.vref = 0 →
    s.table[(4 : Slot)] ≠ none →
    (s.settings.params.holdMin ≤ s.settings.params.holdMax → s.park.state ≠ .applied →
      ∃ (t : State) (e : Entry), exec (.ignitionChange false) s = .next t ∧
        t = { s with lines := { s.lines with ignition := false }, doorOpenMoving := false, coord := t.coord,
                     table := t.table } ∧
        t.coord = { s.coord with state := .securing, settleTimer := none, settled := false, dwellTimer := none,
                                 quietTimer := none, watchOpen := false, withheldTimer := none,
                                 ignitionOffPending := false } ∧
        (∀ j : Slot, j ≠ 3 → t.table[j] = s.table[j]) ∧ t.table[(3 : Slot)] = some e ∧ e.state = .active ∧
        e.scope = 0b111111#6 ∧ e.value = some s.settings.params.holdMax ∧ e.gate = none ∧ e.lifetime = none ∧
        e.policy = .rampOut) ∧
    (s.park.state = .applied →
      ∃ t : State, exec (.ignitionChange false) s = .next t ∧ t.lines = { s.lines with ignition := false } ∧
        t.coord = { s.coord with state := .secured, settleTimer := none, settled := false, dwellTimer := none,
                                 quietTimer := none, watchOpen := false, withheldTimer := none,
                                 ignitionOffPending := false, rolling := Vector.replicate 6 [] } ∧
        (∀ i : Slot, s.table[i] = none → t.table[i] = none) ∧
        (∀ (i : Slot) (e : Entry), s.table[i] = some e → e.cls ≠ .park → t.table[i] = none) ∧
        (∀ (i : Slot) (e : Entry), i ≠ 3 → s.table[i] = some e → e.cls = .park → t.table[i] = some e) ∧
        (∀ k : CircuitId, t.circuit[k] = { s.circuit[k] with mode := .resting }) ∧
        t.sampling.watchMode = true ∧ t.sampling.scan = none ∧ t.sampling.trigger = none ∧
        t.sampling.watchTimer = some (s.clock.us + 1000000) ∧
        t.trip = { s.trip with stallTimer := none, active := { s.trip.active with scanStall := false } } ∧
        t.status = { s.status with timer := s.clock.us + 1000000 } ∧ t.doorOpenMoving = false ∧
        t.roster = s.roster ∧ t.port = s.port ∧ t.settings = s.settings ∧ t.wheel = s.wheel ∧ t.vref = s.vref ∧
        t.clock = s.clock)) ∧
  (∀ s : State, s.coord.state ≠ .securing → s.coord.state ≠ .secured →
    (s.lines.ignition = true → 0 < s.vref →
      exec (.ignitionChange false) s = .next { s with lines := { s.lines with ignition := false }
                                                      coord := { s.coord with ignitionOffPending := true } }) ∧
    (s.lines.ignition = false →
      exec (.ignitionChange true) s = .next { s with lines := { s.lines with ignition := true }
                                                     coord := { s.coord with ignitionOffPending := false } }) ∧
    (∀ (c : Channel) (x : Capture), s.coord.ignitionOffPending = true → 0 < s.vref → s.wheel[c].toothTimer = some x →
      (s.clock.capture - x).toNat < 8388608 →
      (∀ d : Channel, d ≠ c → s.wheel[d].suspect = false → s.wheel[d].speed = 0) →
      ∃ t : State, exec (.toothTimeout c) s = .next t ∧ t.vref = 0 ∧ t.lines = s.lines ∧
        t.coord.ignitionOffPending = false ∧ t.coord.settleTimer = none ∧ t.coord.dwellTimer = none ∧
        t.coord.quietTimer = none ∧
        (s.park.state = .applied → t.coord.state = .secured ∧
          ∀ (i : Slot) (e : Entry), t.table[i] = some e → e.cls = .park) ∧
        (s.settings.params.holdMin ≤ s.settings.params.holdMax → s.park.state ≠ .applied → s.table[(4 : Slot)] ≠ none →
          t.coord.state = .securing ∧ t.park = s.park ∧ (∀ i : Slot, i ≠ 3 → t.table[i] = s.table[i]) ∧
          ∃ e : Entry, t.table[(3 : Slot)] = some e ∧ e.state = .active ∧ e.value = some s.settings.params.holdMax ∧
            e.scope = 0b111111#6 ∧ e.gate = none)))

/-- Ignition on in SECURED is wake: AUTO_PARK, both circuits FALLBACK with STARTING and with TRIP while TRIPPED, drive scan
with its trigger, the 100 ms status period, the queues emptied, slot 0 created, and every general, EMERGENCY and slot 4
entry kept. Ignition on in SECURING returns to AUTO_PARK with the entries as they stand: the creep window starts, the cab
sources match slots 1 and 2 to their lines, and slot 3 is handed over only to a valve that stands APPLIED (R26, R54, R62,
R125, R150, R166, R168, R175, R185, R188, R194; that a restart pending on a discarded answer stays pending is the model's
choice, log entry 9). -/
def Obligations.WakeReturns : Prop :=
  (∀ s : State, s.lines.ignition = false → s.coord.state = .secured → s.table[(3 : Slot)] = none →
    ∃ t : State, exec (.ignitionChange true) s = .next t ∧ t.coord.state = .autoPark ∧
      t.coord.quietTimer = some (s.clock.us + s.settings.params.quietWindow * 1000000) ∧
      t.coord.promotionRefused = s.coord.promotionRefused ∧ t.coord.rollingSecured = s.coord.rollingSecured ∧
      t.table[(0 : Slot)] = some pedalEntry ∧ (∀ j : Slot, 3 ≤ j.val → t.table[j] = s.table[j]) ∧
      (∀ k : CircuitId, t.circuit[k] =
        { mode := .fallback
          causes := { starting := true, trip := s.trip.tripped, pressureInvalid := false, supplyInvalid := false,
                      pedalLost := false }
          pressureRun := 0, supplyRun := 0 }) ∧
      t.sampling.watchMode = false ∧ t.sampling.watchTimer = none ∧ t.sampling.trigger = some (s.clock.us + 2000) ∧
      t.trip = { s.trip with stallTimer := some (s.clock.us + 6000) } ∧
      t.status = { s.status with timer := s.clock.us + 100000 } ∧
      t.port.answers = [] ∧ t.port.excerpts = [] ∧ t.excerpt.emission = none ∧ t.excerpt.waiting = [] ∧
      t.door.state = s.door.raw ∧ t.parkSwitch.state = s.parkSwitch.raw ∧ t.pedal.travel = none ∧
      t.alloc = s.alloc ∧ t.slip = s.slip ∧ t.valve = s.valve ∧ t.wheel = s.wheel ∧ t.vref = s.vref ∧
      t.settings = s.settings ∧ t.roster = s.roster ∧ t.clock = s.clock) ∧
  (∀ (e : Entry) (s : State), s.lines.ignition = false → s.coord.state = .securing → s.table[(4 : Slot)] = some e →
    e.cls = .park →
    ∃ t : State, exec (.ignitionChange true) s = .next t ∧
      t = { s with lines := { s.lines with ignition := true }, coord := t.coord, table := t.table
                   doorOpenMoving := s.door.state && decide (30 < s.vref) } ∧
      t.coord = { s.coord with
        state := .autoPark, settleTimer := none, settled := false, dwellTimer := none
        quietTimer := some (s.clock.us + s.settings.params.quietWindow * 1000000)
        armed := decide (s.vref = 0), edges := Vector.replicate 6 0 } ∧
      (∀ j : Slot, j ≠ 1 → j ≠ 2 → j ≠ 3 → t.table[j] = s.table[j]) ∧
      (s.park.state ≠ .applied → t.table[(3 : Slot)] = s.table[(3 : Slot)]) ∧
      (∀ h : Entry, s.park.state = .applied → s.table[(3 : Slot)] = some h → h.cls = .hold → h.state = .active →
        t.table[(3 : Slot)] = some { h with state := .retiring, deadline := none }) ∧
      (s.door.state = true → s.table[(1 : Slot)] = none → t.table[(1 : Slot)] = some
        { source := 17, cls := .hold, scope := 0b111111#6,
          value := some (min s.settings.params.doorHold s.settings.params.holdMax), lifetime := none, deadline := none,
          policy := .rampOut, gate := some 30, state := .active, blend := 0 }) ∧
      (∀ d : Entry, s.table[(1 : Slot)] = some d →
        (s.door.state = true → d.state = .retiring → t.table[(1 : Slot)] = some { d with
          scope := 0b111111#6, value := some (min s.settings.params.doorHold s.settings.params.holdMax), lifetime := none
          deadline := none, policy := .rampOut, gate := some 30, state := .active }) ∧
        (s.door.state = true → d.state = .active → t.table[(1 : Slot)] = some d) ∧
        (s.door.state = false → d.state = .active → d.cls = .hold →
          t.table[(1 : Slot)] = some { d with state := .retiring, deadline := none }) ∧
        (s.door.state = false → d.state = .retiring → t.table[(1 : Slot)] = some d)) ∧
      (s.door.state = false → s.table[(1 : Slot)] = none → t.table[(1 : Slot)] = none) ∧
      (s.parkSwitch.state = true → s.table[(2 : Slot)] = none → t.table[(2 : Slot)] = some
        { source := 18, cls := .park, scope := 0b001100#6, value := none, lifetime := none, deadline := none,
          policy := .freeze, gate := none, state := .active, blend := 64 }) ∧
      (∀ d : Entry, s.table[(2 : Slot)] = some d → d.cls = .park → d.state = .active →
        t.table[(2 : Slot)] = if s.parkSwitch.state = true then some d else none) ∧
      (s.parkSwitch.state = false → s.table[(2 : Slot)] = none → t.table[(2 : Slot)] = none))

/-- The brake cut-out line becoming active in NORMAL trips the module: CUT_LINE is active and latched, TRIP joins both cause
sets, neither circuit is ELECTRONIC, and no modulator valve and no backup valve is energised (R133, R134, R157, R161). -/
def Obligations.CutOutTrips : Prop :=
  ∀ s : State, s.lines.cutOut = false → s.trip.active.cutLine = false → s.trip.tripped = false →
    ∃ t : State, exec (.brakeCutOutChange true) s = .next t ∧ t.lines = { s.lines with cutOut := true } ∧
      t.trip = { s.trip with tripped := true, active := { s.trip.active with cutLine := true },
                             latched := { s.trip.latched with cutLine := true } } ∧
      (∀ k : CircuitId, t.circuit[k].causes = { s.circuit[k].causes with trip := true } ∧
        t.circuit[k].mode ≠ .electronic ∧ backupOn t k = false) ∧
      (∀ c : Channel, t.valve.chan[c].running = none ∧ inletOn t c = false ∧ exhaustOn t c = false) ∧
      t.exercise.running = false ∧ t.settings = s.settings ∧ t.wheel = s.wheel ∧ t.vref = s.vref ∧
      t.sampling = s.sampling ∧ t.clock = s.clock

/-! ### Wheels -/

/-- A tooth edge with a last capture gives the interval modulo 2^24 and the wheel speed of R92, capped at 1500; the first
edge of a run gives no speed; both restart the 200 ms tooth timer. The roster, the settings, the clocks, the excerpt engine
and the pedal record stand, and no other channel's speed changes. An edge that leaves v_ref as it is, the first of a run
or a later one, counts in an armed creep window; the second of a channel is a creep, which raises slot 3 by the creep step up
to hold_max, or at hold_max promotes in STOP_HOLD and asks for a reapply in CREEP_HOLD, and in AUTO_PARK places the creep hold
in a vacant or RETIRING slot 3, and in an ACTIVE one where it is the greater; a new window starts. In
SECURED an edge joins the rolling record, and one that finds three of the last 2000 ms is rolling: a reapply, the flag, a
status formation, and an empty record (R89, R90, R92, R144, R167, R168, R171, R174, R176, R177, R187; times of the record to the
µs are the model's choice, log entry 31). -/
def Obligations.EdgeGivesSpeed : Prop :=
  (∀ (c : Channel) (s : State), ∃ t : State, exec (.toothEdge c) s = .next t ∧
    t.wheel[c].lastCapture = some s.clock.capture ∧ t.wheel[c].toothTimer = some (s.clock.capture + 200000) ∧
    (s.wheel[c].lastCapture = none →
      t.wheel[c].interval = s.wheel[c].interval ∧ t.wheel[c].speed = s.wheel[c].speed) ∧
    (∀ l, s.wheel[c].lastCapture = some l →
      t.wheel[c].interval = some (s.clock.capture - l).toNat ∧
      t.wheel[c].speed =
        (if s.clock.capture = l then 1500
         else min 1500 (s.settings.params.circumference (axleOf c) * 36000 /
            (s.settings.params.teeth (axleOf c) * (s.clock.capture - l).toNat)))) ∧
    (∀ d : Channel, d ≠ c → t.wheel[d].speed = s.wheel[d].speed ∧ t.wheel[d].lastCapture = s.wheel[d].lastCapture ∧
      t.wheel[d].interval = s.wheel[d].interval ∧ t.wheel[d].suspect = s.wheel[d].suspect) ∧
    t.wheel[c].suspect = s.wheel[c].suspect ∧ t.roster = s.roster ∧ t.settings = s.settings ∧ t.clock = s.clock ∧
    t.excerpt = s.excerpt ∧ t.pedal = s.pedal ∧ t.lines = s.lines) ∧
  (∀ (c : Channel) (speed placed : Nat) (s : State),
    speed = (match s.wheel[c].lastCapture with
      | none => s.wheel[c].speed
      | some l =>
          if s.clock.capture = l then 1500
          else min 1500 (s.settings.params.circumference (axleOf c) * 36000 /
            (s.settings.params.teeth (axleOf c) * (s.clock.capture - l).toNat))) →
    s.vref = referenceSpeed (put s.wheel c { s.wheel[c] with speed := speed }) →
    placed = max s.settings.params.holdMin (min s.settings.params.creepHold s.settings.params.holdMax) →
    ∃ t : State, exec (.toothEdge c) s = .next t ∧ t.vref = s.vref ∧
      (s.coord.state = .run ∨ s.coord.state = .securing → t.coord = s.coord ∧ t.table = s.table ∧ t.park = s.park) ∧
      (s.coord.state = .stopHold ∨ s.coord.state = .autoPark ∨ s.coord.state = .creepHold →
        (s.coord.armed = false → t.coord = s.coord ∧ t.table = s.table ∧ t.park = s.park) ∧
        (s.coord.armed = true → s.coord.edges[c] = 0 →
          t.coord = { s.coord with edges := put s.coord.edges c 1 } ∧ t.table = s.table ∧ t.park = s.park) ∧
        (s.coord.armed = true → 1 ≤ s.coord.edges[c] →
          t.coord.quietTimer = some (s.clock.us + s.settings.params.quietWindow * 1000000) ∧
          t.coord.edges = Vector.replicate 6 0 ∧ t.coord.armed = decide (s.vref = 0) ∧
          (∀ j : Slot, j ≠ 3 → j ≠ 4 → t.table[j] = s.table[j]) ∧
          (∀ (e : Entry) (v : Nat), s.table[(3 : Slot)] = some e → e.value = some v → s.coord.state ≠ .autoPark →
            v < s.settings.params.holdMax →
            t.coord.state = s.coord.state ∧ t.park = s.park ∧ t.table[(4 : Slot)] = s.table[(4 : Slot)] ∧
            t.table[(3 : Slot)] =
              some { e with value := some (min s.settings.params.holdMax (v + s.settings.params.creepStep)) }) ∧
          (∀ (e : Entry) (v : Nat), s.table[(3 : Slot)] = some e → e.value = some v → s.settings.params.holdMax ≤ v →
            (s.coord.state = .stopHold → t.coord.state = .autoPark ∧
              ∃ p : Entry, t.table[(4 : Slot)] = some p ∧ (s.table[(4 : Slot)] = none → p.cls = .park)) ∧
            (s.coord.state = .creepHold → t.coord.state = .creepHold ∧ t.table = s.table ∧
              (s.park.state = .applied ∨ s.park.state = .parkFault →
                t.park = { s.park with state := .applying, step := some .pulse, pulses := 1,
                                       pulseTimer := some (s.clock.us + 150000), confirmTimer := none,
                                       retryTimer := none, applyPending := false }))) ∧
          (s.coord.state = .autoPark → s.table[(3 : Slot)] = none →
            t.coord.state = .creepHold ∧ t.park = s.park ∧ t.table[(4 : Slot)] = s.table[(4 : Slot)] ∧
            t.table[(3 : Slot)] = some
              { source := 19, cls := .hold, scope := 0b111111#6,
                value := some placed, lifetime := none, deadline := none, policy := .rampOut, gate := none, state := .active
                blend := 0 }) ∧
          (∀ e : Entry, s.coord.state = .autoPark → s.table[(3 : Slot)] = some e →
            e.state = .active ∨ e.state = .retiring →
            t.coord.state = .creepHold ∧ t.park = s.park ∧ t.table[(4 : Slot)] = s.table[(4 : Slot)] ∧
            t.table[(3 : Slot)] = some { e with
              scope := 0b111111#6, lifetime := none, deadline := none, policy := .rampOut, gate := none, state := .active
              value := some (if e.state = .active then
                max s.settings.params.holdMin (min (max (e.value.getD 0) placed) s.settings.params.holdMax)
                else placed) })))) ∧
  (∀ (c : Channel) (kept : List Nat) (s : State), s.coord.state = .secured →
    kept = s.coord.rolling[c].filter (fun x => s.clock.us ≤ x + 2000000) →
    ∃ t : State, exec (.toothEdge c) s = .next t ∧
      (kept.length < 3 → t.coord = { s.coord with rolling := put s.coord.rolling c (kept ++ [s.clock.us]) } ∧
        t.park = s.park ∧ t.status = s.status) ∧
      (3 ≤ kept.length →
        t.coord = { s.coord with rollingSecured := true, rolling := Vector.replicate 6 [] } ∧
        t.status = { s.status with lastPage := s.status.lastPage + 1 } ∧
        (s.park.state = .applied ∨ s.park.state = .parkFault →
          t.park = { s.park with state := .applying, step := some .pulse, pulses := 1,
                                 pulseTimer := some (s.clock.us + 150000), confirmTimer := none, retryTimer := none,
                                 applyPending := false }) ∧
        (s.park.state ≠ .applied → s.park.state ≠ .parkFault → t.park = s.park)))

/-- When the tooth timer of a channel expires its run ends: last capture, interval and tooth timer become absent and v_c
becomes 0, and the next edge begins a new run, which gives no speed. An edge taken first, 200 ms after the last one, gives
the interval 200 000 and restarts the timer, and the timeout then does not happen (R91). -/
def Obligations.TimeoutEndsRun : Prop :=
  ∀ (c : Channel) (x : Capture) (s : State), s.wheel[c].toothTimer = some x →
    (s.clock.capture - x).toNat < 8388608 →
    ∃ t : State, exec (.toothTimeout c) s = .next t ∧ t.wheel[c].lastCapture = none ∧ t.wheel[c].interval = none ∧
      t.wheel[c].toothTimer = none ∧ t.wheel[c].speed = 0 ∧ t.wheel[c].suspect = s.wheel[c].suspect ∧
      (∀ d : Channel, d ≠ c → t.wheel[d].speed = s.wheel[d].speed ∧ t.wheel[d].toothTimer = s.wheel[d].toothTimer) ∧
      t.roster = s.roster ∧ t.settings = s.settings ∧ t.clock = s.clock ∧
      (∃ u : State, exec (.toothEdge c) t = .next u ∧ u.wheel[c].speed = 0 ∧ u.wheel[c].interval = none ∧
        u.wheel[c].lastCapture = some s.clock.capture) ∧
      (s.wheel[c].lastCapture = some (s.clock.capture - 200000) →
        ∃ v : State, exec (.toothEdge c) s = .next v ∧ v.wheel[c].interval = some 200000 ∧
          v.wheel[c].speed = min 1500 (s.settings.params.circumference (axleOf c) * 36000 /
            (s.settings.params.teeth (axleOf c) * 200000)) ∧
          v.wheel[c].toothTimer = some (s.clock.capture + 200000) ∧ exec (.toothTimeout c) v = .next v)

/-- The suspect-set timer sets SENSOR_SUSPECT and returns the channel to FOLLOW with its reapply pressure 0; the
suspect-clear timer clears it; each timer becomes absent, and v_ref is again the greatest speed of the channels not suspect
(R94, R95, R96, R109, R111). -/
def Obligations.SuspectTimers : Prop :=
  ∀ (c : Channel) (x : Nat) (s : State), x ≤ s.clock.us →
    (s.wheel[c].setTimer = some x → ∃ t : State, exec (.suspectSetExpiry c) s = .next t ∧
      t.wheel[c].suspect = true ∧ t.wheel[c].setTimer = none ∧ t.wheel[c].speed = s.wheel[c].speed ∧
      reportedPhase t.slip c = .follow ∧ t.slip.reapply[c] = 0 ∧ t.slip.fault = s.slip.fault ∧
      t.vref = referenceSpeed t.wheel ∧
      (∀ d : Channel, d ≠ c → t.wheel[d].suspect = s.wheel[d].suspect ∧ t.wheel[d].speed = s.wheel[d].speed) ∧
      t.roster = s.roster ∧ t.settings = s.settings ∧ t.clock = s.clock) ∧
    (s.wheel[c].clearTimer = some x → ∃ t : State, exec (.suspectClearExpiry c) s = .next t ∧
      t.wheel[c].suspect = false ∧ t.wheel[c].clearTimer = none ∧ t.wheel[c].speed = s.wheel[c].speed ∧
      t.vref = referenceSpeed t.wheel ∧ t.slip.fault = s.slip.fault ∧
      (∀ d : Channel, d ≠ c → t.wheel[d].suspect = s.wheel[d].suspect ∧ t.wheel[d].speed = s.wheel[d].speed) ∧
      t.roster = s.roster ∧ t.settings = s.settings ∧ t.clock = s.clock)

/-! ### Periods, scans, valves -/

/-- An allocation period advances every blend by its class and state, keeps each target within Pmax, moves it by no more than
slew down when it falls and, with no EMERGENCY entry standing, by no more than slew up when it rises, leaves none above its
supply limit but by the falling slew, writes HOLD with duty 0 on circuits that are not ELECTRONIC and on INVALID pressure points in
FOLLOW, restarts its 10 ms timer, and changes nothing but the table, the targets, slip control and the duty buffers. Each target is
slewed toward the greatest entry pressure of its channel, by R73 or R74 from value and blend, after the Pmax and supply
clamps; a contributing EMERGENCY takes a rise at once. A channel under electronic control gets the command of its phase: by
R83 from the target or the reapply pressure, or the forced one. A channel of slip control, or the joined tag pair, goes
through FOLLOW, DUMP, HOLD and REAPPLY by the slips at the expiry (R18, R64, R65, R71 to R80, R81, R83 to R85, R98, R101 to
R107; that R_c follows a rising T_c by the reapply step is the model's choice for the pair, log entry 29). -/
def Obligations.AllocationBounds : Prop :=
  (∀ s : State, s.alloc.timer ≤ s.clock.us →
    (∀ c : Channel, s.alloc.target[c] ≤ s.settings.params.pmax (axleOf c)) →
    ∃ t : State, exec .allocationPeriod s = .next t ∧
      t = { s with table := t.table, alloc := t.alloc, slip := t.slip, valve := t.valve } ∧
      t.alloc.timer = s.clock.us + 10000 ∧ t.valve.timer = s.valve.timer ∧
      (∀ i : Slot, s.table[i] = none → t.table[i] = none) ∧
      (∀ (i : Slot) (e : Entry), s.table[i] = some e →
        (e.cls = .park → t.table[i] = some e) ∧
        (e.cls ≠ .park → e.state = .active →
          t.table[i] = some { e with blend := min 64 (e.blend + rampIn e.cls) }) ∧
        (e.cls ≠ .park → e.state = .frozen → t.table[i] = some e) ∧
        (e.cls ≠ .park → e.state = .retiring ∨ e.state = .lapsing →
          t.table[i] = if e.blend ≤ rampOut e.cls then none else some { e with blend := e.blend - rampOut e.cls })) ∧
      (∀ c : Channel, t.alloc.target[c] ≤ s.settings.params.pmax (axleOf c) ∧
        s.alloc.target[c] - s.settings.params.slewDown ≤ t.alloc.target[c] ∧
        t.alloc.target[c] ≤ max (s.alloc.target[c] - s.settings.params.slewDown)
          (supply s.sampling (circuitOf c) - 30) ∧
        ((∀ (i : Slot) (e : Entry), s.table[i] = some e → e.cls ≠ .emergency) →
          t.alloc.target[c] ≤ s.alloc.target[c] + s.settings.params.slewUp) ∧
        (s.circuit[circuitOf c].mode ≠ .electronic → t.valve.chan[c].buffer = { dir := .hold, duty := 0 }) ∧
        (pressureInvalid s.sampling c = true → reportedPhase t.slip c = .follow →
          t.valve.chan[c].buffer = { dir := .hold, duty := 0 }) ∧
        t.valve.chan[c] = { s.valve.chan[c] with buffer := t.valve.chan[c].buffer })) ∧
  (∀ s : State, s.alloc.timer ≤ s.clock.us → ∃ t : State, exec .allocationPeriod s = .next t ∧
    (∀ (c : Channel) (a d : Nat), a = arbitrated t.table s.settings.params c s.vref →
      d = min (min a (s.settings.params.pmax (axleOf c))) (supply s.sampling (circuitOf c) - 30) →
      (∀ (i : Slot) (e : Entry), t.table[i] = some e → e.pressure s.settings.params c s.vref ≤ a) ∧
      (a = 0 ∨ ∃ (i : Slot) (e : Entry), t.table[i] = some e ∧ a = e.pressure s.settings.params c s.vref) ∧
      t.alloc.supplyLimited[c] = decide (d < min a (s.settings.params.pmax (axleOf c))) ∧
      (s.alloc.target[c] < d →
        (∃ (i : Slot) (e : Entry), t.table[i] = some e ∧ e.cls = .emergency ∧ e.contributes c s.vref = true ∧
          0 < (e.value.getD 0 * e.blend + 32) / 64) → t.alloc.target[c] = d) ∧
      (s.alloc.target[c] < d →
        (∀ (i : Slot) (e : Entry), t.table[i] = some e → e.cls = .emergency → e.contributes c s.vref = true →
          (e.value.getD 0 * e.blend + 32) / 64 = 0) →
        t.alloc.target[c] = min (s.alloc.target[c] + s.settings.params.slewUp) d) ∧
      (d ≤ s.alloc.target[c] → t.alloc.target[c] = max (s.alloc.target[c] - s.settings.params.slewDown) d)) ∧
    (∀ (c : Channel) (x p : Nat), s.circuit[circuitOf c].mode = .electronic → p = measured s.sampling c →
      (reportedPhase t.slip c = .dump → t.valve.chan[c].buffer = { dir := .release, duty := 100 }) ∧
      (reportedPhase t.slip c = .hold → t.valve.chan[c].buffer = { dir := .hold, duty := 0 }) ∧
      (pressureInvalid s.sampling c = false →
        (reportedPhase t.slip c = .follow ∧ x = t.alloc.target[c] ∨
          reportedPhase t.slip c = .reapply ∧ x = t.slip.reapply[c]) →
        t.valve.chan[c].buffer =
          (if p + s.settings.params.deadBand < x then
            { dir := .apply, duty := min 100 (s.settings.params.dutyFloor +
                (x - p - s.settings.params.deadBand) * s.settings.params.dutyGain) }
          else if x + s.settings.params.deadBand < p then
            { dir := .release, duty := min 100 (s.settings.params.dutyFloor +
                (p - x - s.settings.params.deadBand) * s.settings.params.dutyGain) }
          else { dir := .hold, duty := 0 }))) ∧
    (∀ (k : Fin 5) (slip r : Channel → Nat), s.circuit[groupCircuit k].mode = .electronic →
      (k = 4 → s.slip.tlJoined = true ∧ s.slip.trJoined = true) →
      (∀ c ∈ groupChannels k, s.slip.fault[c] = false ∧ s.wheel[c].suspect = false) →
      (∀ c : Channel, slip c = (if s.wheel[c].speed < s.vref ∧ 50 ≤ s.vref then
        (s.vref - s.wheel[c].speed) * 100 / s.vref else 0)) →
      (∀ c : Channel, r c = min t.alloc.target[c]
        (if s.slip.group[k].phase = .hold then measured s.sampling c
          else s.slip.reapply[c] + s.settings.params.reapplyStep)) →
      ((∀ c ∈ groupChannels k, t.alloc.target[c] = 0) →
        t.slip.group[k] = { phase := .follow, dump := 0, hold := 0 }) ∧
      ((∃ c ∈ groupChannels k, 0 < t.alloc.target[c]) →
        ((∃ c ∈ groupChannels k, s.settings.params.slipOn ≤ slip c ∧ 0 < t.alloc.target[c]) →
          s.slip.group[k].phase ≠ .dump → t.slip.group[k] = { phase := .dump, dump := 1, hold := 0 }) ∧
        (s.slip.group[k].phase = .dump →
          ((∀ c ∈ groupChannels k, slip c < s.settings.params.slipOff) →
            t.slip.group[k] = { phase := .hold, dump := 0, hold := 1 }) ∧
          ((∃ c ∈ groupChannels k, s.settings.params.slipOff ≤ slip c) →
            (s.slip.group[k].dump < 50 →
              t.slip.group[k] = { phase := .dump, dump := s.slip.group[k].dump + 1, hold := 0 }) ∧
            (50 ≤ s.slip.group[k].dump → t.slip.group[k] = { phase := .follow, dump := 0, hold := 0 } ∧
              ∀ c ∈ groupChannels k, t.slip.fault[c] = true))) ∧
        ((∀ c ∈ groupChannels k, slip c < s.settings.params.slipOn ∨ t.alloc.target[c] = 0) →
          (s.slip.group[k].phase = .follow → t.slip.group[k] = { phase := .follow, dump := 0, hold := 0 }) ∧
          (s.slip.group[k].phase = .hold → s.slip.group[k].hold < 3 →
            t.slip.group[k] = { phase := .hold, dump := 0, hold := s.slip.group[k].hold + 1 }) ∧
          (s.slip.group[k].phase = .hold ∧ 3 ≤ s.slip.group[k].hold ∨ s.slip.group[k].phase = .reapply →
            ((∀ c ∈ groupChannels k, r c = t.alloc.target[c]) →
              t.slip.group[k] = { phase := .follow, dump := 0, hold := 0 }) ∧
            ((∃ c ∈ groupChannels k, r c ≠ t.alloc.target[c]) →
              t.slip.group[k] = { phase := .reapply, dump := 0, hold := 0 } ∧
              ∀ c ∈ groupChannels k, t.slip.reapply[c] = r c)))) ∧
      (t.slip.group[k].phase ≠ .reapply → ∀ c ∈ groupChannels k, t.slip.reapply[c] = 0))) ∧
  (∀ (e : Entry) (p : Params) (c : Channel) (vref x : Nat), x = (e.value.getD 0 * e.blend + 32) / 64 →
    (e.contributes c vref = true ↔ e.scope.getLsbD c.val = true ∧ e.cls ≠ .park ∧
      (∀ g : Byte, e.gate = some g → vref ≤ g.toNat) ∧ (e.cls = .test → vref = 0)) ∧
    (e.contributes c vref = false → e.pressure p c vref = 0) ∧
    (e.contributes c vref = true → e.cls = .hold → e.pressure p c vref = x) ∧
    (e.contributes c vref = true → e.cls ≠ .hold → e.pressure p c vref =
      if x = 0 then 0 else p.pushOut (axleOf c) + (x * p.gain (axleOf c) + 50) / 100))

/-- A conversion in drive scan: a valid front-supply one that is not the scan's last stands as the input's current-scan
result, the next conversion starts, and nothing else changes; a channel pressure raises its overpressure count above the
window of an ELECTRONIC circuit and clears it otherwise, and the fifth makes OVERPRESSURE active and, enabled, trips; a park
chamber below 50 kPa confirms an apply attempt, at which securing completes in SECURING, and one above 550 kPa a release. The
last conversion, of the supply voltage, completes the scan: results stand, pedal pair and slot 0 follow, the disagreement runs and flags,
causes and runs of both circuits, the modes after them, the targets of a circuit that returns re-seeded, the undervolt run, and
the stall timer restarted. A rear-supply conversion evaluates a withheld release again with its value. In watch scan the next
flagged point follows, and in SECURED a value outside the window of its point, or an INVALID one, is a watch event: the park
chamber ABOVE starts a reapply, any other forms the status frames at once (R55, R57, R59, R87, R118, R120, R124, R129, R130,
R139 to R141, R154, R155, R158, R159, R179, R186; that an input without a result is no travel and not valid throughout is the
model's reading, log entry 19). A premise on the modes says that they follow the cause sets, as R150 keeps them. -/
def Obligations.ConversionRecorded : Prop :=
  (∀ (raw : BitVec 12) (p : ScanPosition) (n : Fin 16) (s : State), s.sampling.scan = some p → p.stop ≤ s.clock.us →
    s.sampling.watchMode = false → s.sampling.records[p.record].input = 6 → p.record.val + 1 < s.sampling.length →
    n.val = p.record.val + 1 → 410 ≤ raw.toNat → raw.toNat ≤ 4013 →
    (∀ k : CircuitId, decideMode s.circuit[k].mode s.circuit[k].causes = s.circuit[k].mode) →
    exec (.conversionComplete raw) s = .next { s with sampling := { s.sampling with
      scan := some { record := n, stop := s.clock.us + 125 }
      inputs := put s.sampling.inputs 6 { s.sampling.inputs[6] with
        current := some { value := some (min 1000 (((raw.toNat - 410) * 1000 + 1638) / 3276)), window := none }
        currentValid := some (min 1000 (((raw.toNat - 410) * 1000 + 1638) / 3276))
        allValid := some (s.sampling.inputs[6].allValid != some false) } } }) ∧
  (∀ (raw : BitVec 12) (p : ScanPosition) (n : Fin 16) (c : Channel) (count : Nat) (s : State),
    s.sampling.scan = some p → p.stop ≤ s.clock.us → s.sampling.watchMode = false →
    s.sampling.records[p.record].input.val = c.val → p.record.val + 1 < s.sampling.length → n.val = p.record.val + 1 →
    count = (if s.circuit[circuitOf c].mode = .electronic ∧ 82 ≤ raw.toNat ∧ raw.toNat ≤ 4013 ∧
        s.settings.params.pmax (axleOf c) + 80 < min 1000 (((raw.toNat - 410) * 1000 + 1638) / 3276)
      then min 5 (s.trip.overpressure[c] + 1) else 0) →
    ∃ t : State, exec (.conversionComplete raw) s = .next t ∧
      t.sampling.scan = some { record := n, stop := s.clock.us + 125 } ∧
      t.trip.overpressure = put s.trip.overpressure c count ∧
      (t.trip.active.overpressure = true ↔ ∃ k : Channel, t.trip.overpressure[k] = 5) ∧
      (t.trip.active.overpressure = true → s.trip.active.overpressure = false →
        s.settings.params.overpressureOn = true →
        t.trip.tripped = true ∧ t.trip.latched = { s.trip.latched with overpressure := true }) ∧
      (t.trip.active.overpressure = false ∨ s.trip.active.overpressure = true ∨
          s.settings.params.overpressureOn = false →
        t.trip.tripped = s.trip.tripped ∧ t.trip.latched = s.trip.latched)) ∧
  (∀ (raw : BitVec 12) (p : ScanPosition) (n : Fin 16) (v : Nat) (s : State),
    s.sampling.scan = some p → p.stop ≤ s.clock.us → s.sampling.watchMode = false →
    s.sampling.records[p.record].input = 8 → p.record.val + 1 < s.sampling.length → n.val = p.record.val + 1 →
    convert 8 raw = some v → s.park.step = some .confirm → s.park.wanted = decide (s.park.state = .applying) →
    s.park.withheld = false →
    (∀ k : CircuitId, decideMode s.circuit[k].mode s.circuit[k].causes = s.circuit[k].mode) →
    ∃ t : State, exec (.conversionComplete raw) s = .next t ∧
      (s.park.state = .applying → v < 50 →
        t.park = { s.park with state := .applied, step := none, confirmTimer := none, pulses := 0, fault := false } ∧
        (s.coord.state = .securing → t.coord.state = .secured) ∧
        (s.coord.state = .autoPark → t.coord = s.coord ∧ ∀ e : Entry, s.table[(3 : Slot)] = some e → e.cls = .hold →
          e.state = .active → t.table[(3 : Slot)] = some { e with state := .retiring, deadline := none }) ∧
        (s.coord.state ≠ .securing → s.coord.state ≠ .autoPark → t.coord = s.coord ∧ t.table = s.table)) ∧
      (s.park.state = .releasing → 550 < v →
        t.park = { s.park with state := .released, step := none, confirmTimer := none, fault := false } ∧
        t.coord = { s.coord with watchOpen := false, withheldTimer := none } ∧ t.table = s.table) ∧
      (s.park.state = .applying ∧ 50 ≤ v ∨ s.park.state = .releasing ∧ v ≤ 550 →
        t.park = s.park ∧ t.coord = s.coord ∧ t.table = s.table)) ∧
  (∀ (raw : BitVec 12) (p : ScanPosition) (low : Bool) (s : State), s.sampling.scan = some p → p.stop ≤ s.clock.us →
    s.sampling.watchMode = false → s.sampling.records[p.record].input = 11 → p.record.val + 1 = s.sampling.length →
    low = decide (82 ≤ raw.toNat ∧ (raw.toNat * 400 + 2048) / 4096 < 160) →
    ∃ t : State, exec (.conversionComplete raw) s = .next t ∧ t.sampling.scan = none ∧
      (∀ k : Fin 12, k ≠ 11 → t.sampling.inputs[k].latest = s.sampling.inputs[k].latest ∧
        t.sampling.inputs[k].latestValid = s.sampling.inputs[k].latestValid ∧
        t.sampling.inputs[k].current = none ∧ t.sampling.inputs[k].allValid = none) ∧
      t.pedal.travel = (match travelA t.sampling, travelB t.sampling with
        | some a, some b => some (max a b)
        | some a, none => some a
        | none, b => b) ∧
      (∀ a b : Nat, travelA t.sampling = some a → travelB t.sampling = some b →
        t.pedal.single = false ∧ t.pedal.lost = false ∧
        (a + 60 < b ∨ b + 60 < a → t.pedal.agreeRun = 0 ∧ t.pedal.disagreeRun = min 3 (s.pedal.disagreeRun + 1) ∧
          t.pedal.disagree = (s.pedal.disagree || decide (t.pedal.disagreeRun = 3))) ∧
        (a ≤ b + 60 → b ≤ a + 60 → t.pedal.disagreeRun = 0 ∧
          (s.pedal.disagree = false → t.pedal.agreeRun = 0 ∧ t.pedal.disagree = false) ∧
          (s.pedal.disagree = true → s.pedal.agreeRun < 9 →
            t.pedal.agreeRun = s.pedal.agreeRun + 1 ∧ t.pedal.disagree = true) ∧
          (s.pedal.disagree = true → 9 ≤ s.pedal.agreeRun → t.pedal.agreeRun = 0 ∧ t.pedal.disagree = false))) ∧
      (travelA t.sampling = none ∨ travelB t.sampling = none → t.pedal.agreeRun = 0 ∧ t.pedal.disagreeRun = 0 ∧
        t.pedal.disagree = s.pedal.disagree ∧
        (t.pedal.lost = true ↔ travelA t.sampling = none ∧ travelB t.sampling = none) ∧
        t.pedal.single = !t.pedal.lost) ∧
      (∀ c : Channel, t.alloc.target[c] =
        if s.circuit[circuitOf c].mode ≠ .electronic ∧ t.circuit[circuitOf c].mode = .electronic then
          min (measured s.sampling c) (s.settings.params.pmax (axleOf c))
        else s.alloc.target[c]) ∧
      t.table[(0 : Slot)] = s.table[(0 : Slot)].map (fun e => { e with value := some (match t.pedal.travel with
        | none => 0
        | some x => if x ≤ 50 then 0 else min 800 (((x - 50) * 800 + 475) / 950)) }) ∧
      (∀ (k : CircuitId) (pv sv : Bool),
        pv = decide (∀ c : Channel, circuitOf c = k →
          s.sampling.inputs[c.castLE (by decide : 6 ≤ 12)].allValid = some true) →
        sv = decide (s.sampling.inputs[if k = 0 then (6 : Fin 12) else 7].allValid = some true) →
        t.circuit[k].causes.starting = (s.circuit[k].causes.starting && !(pv && sv)) ∧
        t.circuit[k].causes.pressureInvalid =
          (!pv || s.circuit[k].causes.pressureInvalid && decide (s.circuit[k].pressureRun + 1 < 10)) ∧
        t.circuit[k].pressureRun = (if pv = true ∧ s.circuit[k].causes.pressureInvalid = true ∧
          s.circuit[k].pressureRun + 1 < 10 then s.circuit[k].pressureRun + 1 else 0) ∧
        t.circuit[k].causes.supplyInvalid =
          (!sv || s.circuit[k].causes.supplyInvalid && decide (s.circuit[k].supplyRun + 1 < 10)) ∧
        t.circuit[k].supplyRun = (if sv = true ∧ s.circuit[k].causes.supplyInvalid = true ∧
          s.circuit[k].supplyRun + 1 < 10 then s.circuit[k].supplyRun + 1 else 0) ∧
        t.circuit[k].causes.pedalLost =
          (decide (t.pedal.travel = none) || s.circuit[k].causes.pedalLost && decide (s.pedalRun + 1 < 10)) ∧
        t.circuit[k].mode = (if s.circuit[k].mode = .resting then .resting
          else if t.circuit[k].causes = { starting := false, trip := false, pressureInvalid := false,
                                          supplyInvalid := false, pedalLost := false } then .electronic
          else .fallback)) ∧
      t.trip.undervoltRun = (if low = true then min 3 (s.trip.undervoltRun + 1) else 0) ∧
      t.trip.active = { s.trip.active with undervolt := decide (t.trip.undervoltRun = 3), scanStall := false } ∧
      t.trip.stallTimer = some (s.clock.us + 6000) ∧
      (t.trip.active.undervolt = true → s.trip.active.undervolt = false → s.settings.params.undervoltOn = true →
        t.trip.tripped = true ∧ t.trip.latched = { s.trip.latched with undervolt := true })) ∧
  (∀ (raw : BitVec 12) (p : ScanPosition) (v : Nat) (s : State), s.sampling.scan = some p → p.stop ≤ s.clock.us →
    s.sampling.watchMode = false → s.sampling.records[p.record].input = 7 → p.record.val + 1 < s.sampling.length →
    v = (convert 7 raw).getD (supply s.sampling 1) → s.park.state = .applied ∨ s.park.state = .parkFault →
    (∀ k : CircuitId, decideMode s.circuit[k].mode s.circuit[k].causes = s.circuit[k].mode) →
    ∃ t : State, exec (.conversionComplete raw) s = .next t ∧
      t = { s with sampling := t.sampling, park := t.park, coord := t.coord } ∧ supply t.sampling 1 = v ∧
      (s.park.withheld = false → t.park = s.park ∧ t.coord = s.coord) ∧
      (s.park.withheld = true → anyPark s.table = false ∧ s.settings.params.releaseReserve ≤ v ∧
          s.circuit[1].mode = .electronic →
        t.park = { s.park with state := .releasing, step := some .pulse, pulseTimer := some (s.clock.us + 150000),
                               confirmTimer := none, retryTimer := none, applyPending := false, withheld := false } ∧
        t.coord = { s.coord with airLow := false, withheldTimer := none, springCycles :=
          (if s.coord.springCycles.length < 16 then s.coord.springCycles else s.coord.springCycles.drop 1)
            ++ [s.clock.ms] }) ∧
      (s.park.withheld = true → anyPark s.table = true ∨ v < s.settings.params.releaseReserve ∨
          s.circuit[1].mode ≠ .electronic →
        t.park = s.park ∧ t.coord = { s.coord with
          withheldTimer := if s.coord.watchOpen = true ∧ s.coord.withheldTimer = none then
              some (s.clock.us + s.settings.params.withheldLimit * 1000000)
            else s.coord.withheldTimer })) ∧
  (∀ (raw : BitVec 12) (p : ScanPosition) (r : PointRecord) (low : Nat) (res : ConvResult) (s : State),
    s.sampling.scan = some p → p.stop ≤ s.clock.us → s.sampling.watchMode = true → s.coord.state = .secured →
    (∀ k : CircuitId, s.circuit[k].mode = .resting) → s.park.step ≠ some .confirm →
    r = s.sampling.records[p.record] → r.input = 6 ∨ 8 ≤ r.input.val → low = (if r.input = 11 then 160 else r.low) →
    res = { value := convert r.input raw, window := (convert r.input raw).map fun v =>
      if v < low then .below else if r.high < v then .above else .inside } →
    ∃ t : State, exec (.conversionComplete raw) s = .next t ∧
      t = { s with sampling := t.sampling, park := t.park, port := t.port, status := t.status, override := t.override } ∧
      t.sampling.inputs[r.input].latest = some res ∧
      (∀ k : Fin 12, k ≠ r.input → t.sampling.inputs[k].latest = s.sampling.inputs[k].latest) ∧
      (∀ n : Fin 16, p.record < n → n.val < s.sampling.length → s.sampling.records[n].watch = true →
        (∀ q : Fin 16, p.record < q → q < n → s.sampling.records[q].watch = false) →
        t.sampling.scan = some { record := n, stop := s.clock.us + 125 }) ∧
      ((∀ q : Fin 16, p.record < q → q.val < s.sampling.length → s.sampling.records[q].watch = false) →
        t.sampling.scan = none ∧ ∀ k : Fin 12, t.sampling.inputs[k].current = none) ∧
      (res.window = some .inside →
        t.park = s.park ∧ t.port = s.port ∧ t.status = s.status ∧ t.override = s.override) ∧
      (r.input = 8 → res.window = some .above → t.port = s.port ∧ t.status = s.status ∧ t.override = s.override ∧
        (s.park.state = .applied ∨ s.park.state = .parkFault →
          t.park = { s.park with state := .applying, step := some .pulse, pulses := 1,
                                 pulseTimer := some (s.clock.us + 150000), confirmTimer := none, retryTimer := none,
                                 applyPending := false }) ∧
        (s.park.state ≠ .applied → s.park.state ≠ .parkFault → t.park = s.park)) ∧
      (res.window ≠ some .inside → r.input ≠ 8 ∨ res.window ≠ some .above →
        t.park = s.park ∧ t.status = { s.status with lastPage := s.status.lastPage + 1 } ∧
        t.override = { s.override with flag := false } ∧ (s.port.online = false → t.port = s.port) ∧
        (s.port.online = true → s.port.tx = none →
          t.port.status[0].current = some (statusA { s with sampling := t.sampling }) ∧
          t.port.status[1].current = some (statusB { s with sampling := t.sampling } (s.status.lastPage + 1)) ∧
          t.port.status[2].current = some (statusC { s with sampling := t.sampling }))))

/-- A scan trigger is restarted for 2 ms; IDLE it starts a scan, SCANNING it counts an overrun and the scan runs on. A watch
timer is restarted for 1000 ms, and with the unit IDLE its scan starts at the first flagged point or, with none, is complete
(R120, R121, R124). -/
def Obligations.ScanTimers : Prop :=
  ∀ (x : Nat) (s : State), x ≤ s.clock.us →
    (s.sampling.trigger = some x → s.sampling.scan = none → s.sampling.watchMode = false → 1 ≤ s.sampling.length →
      exec .scanTriggerExpiry s = .next { s with sampling := { s.sampling with
        trigger := some (s.clock.us + 2000), scan := some { record := 0, stop := s.clock.us + 125 } } }) ∧
    (s.sampling.trigger = some x → s.sampling.scan ≠ none →
      exec .scanTriggerExpiry s = .next { s with sampling := { s.sampling with
        trigger := some (s.clock.us + 2000), overrun := min 255 (s.sampling.overrun + 1) } }) ∧
    (∀ r : Fin 16, s.sampling.watchTimer = some x → s.sampling.scan = none → s.sampling.watchMode = true →
      r.val < s.sampling.length → s.sampling.records[r].watch = true →
      (∀ q : Fin 16, q < r → s.sampling.records[q].watch = false) →
      exec .watchTimerExpiry s = .next { s with sampling := { s.sampling with
        watchTimer := some (s.clock.us + 1000000), scan := some { record := r, stop := s.clock.us + 125 } } }) ∧
    (s.sampling.watchTimer = some x → s.sampling.scan = none → s.sampling.watchMode = true →
      (∀ q : Fin 16, s.sampling.records[q].watch = false) →
      exec .watchTimerExpiry s = .next { s with sampling := { s.sampling with
        watchTimer := some (s.clock.us + 1000000) } })

/-- The stall timer makes SCAN_STALL active; enabled and in NORMAL it trips the module, and disabled it only becomes active
(R156, R160, R161). The premise on the modes says that they follow the cause sets, as R150 keeps them. -/
def Obligations.StallTrips : Prop :=
  ∀ (x : Nat) (s : State), s.trip.stallTimer = some x → x ≤ s.clock.us → s.trip.active.scanStall = false →
    s.trip.tripped = false →
    (s.settings.params.scanStallOn = true → ∃ t : State, exec .stallTimerExpiry s = .next t ∧
      t.trip = { s.trip with tripped := true, stallTimer := none, active := { s.trip.active with scanStall := true },
                             latched := { s.trip.latched with scanStall := true } } ∧
      (∀ k : CircuitId, t.circuit[k].causes.trip = true ∧ t.circuit[k].mode ≠ .electronic) ∧
      t.settings = s.settings ∧ t.wheel = s.wheel ∧ t.sampling = s.sampling ∧ t.clock = s.clock) ∧
    (s.settings.params.scanStallOn = false →
      (∀ k : CircuitId, decideMode s.circuit[k].mode s.circuit[k].causes = s.circuit[k].mode) →
      exec .stallTimerExpiry s = .next { s with trip :=
        { s.trip with stallTimer := none, active := { s.trip.active with scanStall := true } } })

/-- A modulation period start takes every channel's buffer that the exercise engine does not own and restarts its timer; a
cut channel forms no pulse. On the others a command that names a valve forms its pulse by the steps of R136: on-time from the
duty, start at the period start or the changeover gap after the other valve's recorded end, end at the period end at the
latest, and none below 2 ms. It becomes the recorded pulse. A pulse in progress whose end has come ends, unless a pulse of its
valve begins there and keeps it energised. A running exercise takes its channel and forms the forced pulse of R147, and with
the pulse the next direction changes and a RELEASE pulse counts a cycle (R134 to R137, R147, R148; an exercise accepted after
an end and before the period start keeps the channel, the model's choice of log entry 30; that the period start is what ends
a pulse whose end has come, unless a pulse of its valve begins there, is the model's choice of log entry 15). -/
def Obligations.ModulationForms : Prop :=
  (∀ s : State, s.valve.timer ≤ s.clock.us → s.exercise.running = false →
    ∃ t : State, exec .modulationPeriodStart s = .next t ∧
      t = { s with valve := t.valve, exercise := { s.exercise with owning := none } } ∧
      t.valve.timer = s.clock.us + s.settings.params.modulationPeriod * 1000 ∧
      (∀ c : Channel, t.valve.chan[c].buffer = s.valve.chan[c].buffer ∧
        t.valve.chan[c].active = s.valve.chan[c].buffer ∧
        (outputsCut s c = true → t.valve.chan[c].waiting = none) ∧
        (s.valve.chan[c].buffer.dir = .hold → t.valve.chan[c].waiting = none) ∧
        (∀ (v : Valve) (on start stop : Nat), outputsCut s c = false →
          (s.valve.chan[c].buffer.dir = .apply ∧ v = .inlet ∨ s.valve.chan[c].buffer.dir = .release ∧ v = .exhaust) →
          on = s.valve.chan[c].buffer.duty * (s.settings.params.modulationPeriod * 10) / 100 * 100 →
          start = (match s.valve.chan[c].last with
            | some l => if l.valve = v then s.clock.us
                else max s.clock.us (l.stop + s.settings.params.changeoverGap * 1000)
            | none => s.clock.us) →
          stop = min (start + on) t.valve.timer →
          t.valve.chan[c].waiting =
            if start + 2000 ≤ stop then some { valve := v, start := start, stop := stop } else none) ∧
        (t.valve.chan[c].waiting = none → t.valve.chan[c].last = s.valve.chan[c].last) ∧
        (∀ p : Pulse, t.valve.chan[c].waiting = some p →
          s.clock.us ≤ p.start ∧ p.start + 2000 ≤ p.stop ∧ p.stop ≤ t.valve.timer ∧
          t.valve.chan[c].last = some { valve := p.valve, stop := p.stop }) ∧
        (s.valve.chan[c].running = none → t.valve.chan[c].running = none) ∧
        (∀ p : Pulse, s.valve.chan[c].running = some p →
          (s.clock.us < p.stop → t.valve.chan[c].running = some p) ∧
          (p.stop ≤ s.clock.us → (∀ q : Pulse, t.valve.chan[c].waiting = some q → q.valve = p.valve →
            s.clock.us < q.start) → t.valve.chan[c].running = none) ∧
          (∀ q : Pulse, t.valve.chan[c].waiting = some q → q.valve = p.valve → q.start ≤ s.clock.us →
            t.valve.chan[c].running = some p)))) ∧
  (∀ (c : Channel) (on start stop : Nat) (v : Valve) (s : State), s.valve.timer ≤ s.clock.us →
    s.exercise.running = true → s.exercise.channel = some c → v = s.exercise.next →
    on = min s.settings.params.exercisePulse s.settings.params.modulationPeriod * 1000 →
    start = (match s.valve.chan[c].last with
      | some l => if l.valve = v then s.clock.us else max s.clock.us (l.stop + s.settings.params.changeoverGap * 1000)
      | none => s.clock.us) →
    stop = min (start + on) (s.clock.us + s.settings.params.modulationPeriod * 1000) →
    ∃ t : State, exec .modulationPeriodStart s = .next t ∧ t.exercise.owning = some c ∧
      t.valve.timer = s.clock.us + s.settings.params.modulationPeriod * 1000 ∧
      t.valve.chan[c].buffer = s.valve.chan[c].buffer ∧ t.valve.chan[c].active = s.valve.chan[c].active ∧
      (outputsCut s c = true ∨ stop < start + 2000 → t.valve.chan[c].waiting = none ∧ t.exercise.next = v ∧
        t.exercise.cycles = s.exercise.cycles ∧ t.exercise.running = true) ∧
      (outputsCut s c = false → start + 2000 ≤ stop →
        t.valve.chan[c].waiting = some { valve := v, start := start, stop := stop } ∧
        (v = .inlet → t.exercise.next = .exhaust ∧ t.exercise.cycles = s.exercise.cycles ∧
          t.exercise.running = true) ∧
        (v = .exhaust → t.exercise.next = .inlet ∧
          t.exercise.cycles = (if s.exercise.cycles < 65535 then s.exercise.cycles + 1 else 0) ∧
          (s.exercise.mode = some .freeRun → t.exercise.running = true) ∧
          (∀ n : Nat, s.exercise.mode = some (.count n) →
            t.exercise.running = decide (t.exercise.cycles ≠ n)))))

/-- A formed pulse whose start has come is energised by MODULATOR_PULSE_START, and a running one whose end has come is
de-energised by MODULATOR_PULSE_END; the recorded last pulse stands, and nothing else changes. Where a pulse ends at a period
end and the period start of that instant forms one of the same valve that begins there, the valve stays energised whichever of
the two events is taken first (R136, R137; that the end is then left to the period start is log entry 15). -/
def Obligations.PulseBeginsEnds : Prop :=
  (∀ (c : Channel) (p : Pulse) (s : State),
    (s.valve.chan[c].waiting = some p → p.start ≤ s.clock.us →
      exec (.modulatorPulseStart c) s = .next { s with valve := { s.valve with
        chan := put s.valve.chan c { s.valve.chan[c] with running := some p, waiting := none } } }) ∧
    (s.valve.chan[c].running = some p → p.stop ≤ s.clock.us → p.stop ≠ s.valve.timer →
      s.valve.chan[c].waiting = none →
      exec (.modulatorPulseEnd c) s = .next { s with valve := { s.valve with
        chan := put s.valve.chan c { s.valve.chan[c] with running := none } } })) ∧
  (∀ (c : Channel) (p q : Pulse) (s u : State), s.valve.chan[c].running = some p → p.stop = s.valve.timer →
    p.stop ≤ s.clock.us → 1 ≤ s.settings.params.modulationPeriod → exec .modulationPeriodStart s = .next u →
    u.valve.chan[c].waiting = some q → q.valve = p.valve → q.start ≤ s.clock.us →
    exec (.modulatorPulseEnd c) s = .next s ∧ u.valve.chan[c].running = some p ∧
    exec (.modulatorPulseEnd c) u = .next { u with valve := { u.valve with
      chan := put u.valve.chan c { u.valve.chan[c] with running := some q, waiting := none } } })

/-- The park valve's timers: an APPLY pulse opens a 1500 ms window and a RELEASE pulse a 3000 ms one, or starts the pending
apply attempt; an unconfirmed apply gives a further pulse until 3 are given, then PARK_FAULT with the 10 s retry timer, as an
unconfirmed release does at once; a retry with park wanted starts an apply attempt. Nothing but the park record changes
(R139, R141, R142, R143). -/
def Obligations.ParkTimers : Prop :=
  ∀ (x : Nat) (s : State), x ≤ s.clock.us →
    (s.park.pulseTimer = some x → s.park.state = .applying → exec .parkPulseEnd s = .next { s with park :=
      { s.park with step := some .confirm, pulseTimer := none, confirmTimer := some (s.clock.us + 1500000) } }) ∧
    (s.park.pulseTimer = some x → s.park.state = .releasing → s.park.applyPending = false →
      exec .parkPulseEnd s = .next { s with park :=
        { s.park with step := some .confirm, pulseTimer := none, confirmTimer := some (s.clock.us + 3000000) } }) ∧
    (s.park.pulseTimer = some x → s.park.state = .releasing → s.park.applyPending = true →
      exec .parkPulseEnd s = .next { s with park :=
        { s.park with state := .applying, step := some .pulse, pulses := 1, pulseTimer := some (s.clock.us + 150000),
                      confirmTimer := none, retryTimer := none, applyPending := false } }) ∧
    (s.park.confirmTimer = some x → s.park.state = .applying → s.park.pulses < 3 →
      exec .confirmationWindowExpiry s = .next { s with park :=
        { s.park with step := some .pulse, pulses := s.park.pulses + 1, pulseTimer := some (s.clock.us + 150000),
                      confirmTimer := none } }) ∧
    (s.park.confirmTimer = some x → (s.park.state = .applying ∧ 3 ≤ s.park.pulses) ∨ s.park.state = .releasing →
      exec .confirmationWindowExpiry s = .next { s with park :=
        { s.park with state := .parkFault, step := none, confirmTimer := none, pulses := 0, fault := true,
                      retryTimer := some (s.clock.us + 10000000) } }) ∧
    (s.park.retryTimer = some x → s.park.state = .parkFault → s.park.wanted = true →
      exec .retryTimerExpiry s = .next { s with park :=
        { s.park with state := .applying, step := some .pulse, pulses := 1, pulseTimer := some (s.clock.us + 150000),
                      confirmTimer := none, retryTimer := none, applyPending := false } })

/-! ### Standstill -/

/-- The settle timer in RUN: with every condition of R170 met the state becomes STOP_HOLD, slot 3 holds the greater drive
pressure clamped to hold_min and hold_max, and the dwell timer and the creep window start; with the drive request active the
bus stays in RUN, settled (R167 to R170). -/
def Obligations.SettleExpires : Prop :=
  ∀ (x : Nat) (s : State), s.coord.settleTimer = some x → x ≤ s.clock.us → s.coord.state = .run →
    (s.settings.params.holdMin ≤ max (measured s.sampling 2) (measured s.sampling 3) →
      s.settings.params.autoHold = true → s.circuit[0].mode = .electronic → s.circuit[1].mode = .electronic →
      s.lines.drive = false → s.table[(3 : Slot)] = none →
      ∃ t : State, exec .settleTimerExpiry s = .next t ∧ t = { s with coord := t.coord, table := t.table } ∧
        (∀ j : Slot, j ≠ 3 → t.table[j] = s.table[j]) ∧
        t.table[(3 : Slot)] = some
          { source := 19, cls := .hold, scope := 0b111111#6,
            value := some (max s.settings.params.holdMin
              (min (max (measured s.sampling 2) (measured s.sampling 3)) s.settings.params.holdMax))
            lifetime := none, deadline := none, policy := .rampOut, gate := none, state := .active, blend := 0 } ∧
        t.coord = { s.coord with
          state := .stopHold, settleTimer := none, settled := false
          dwellTimer := some (s.clock.us + s.settings.params.promoteDelay * 1000000)
          quietTimer := some (s.clock.us + s.settings.params.quietWindow * 1000000)
          armed := decide (s.vref = 0), edges := Vector.replicate 6 0, watchOpen := false, withheldTimer := none }) ∧
    (s.lines.drive = true →
      exec .settleTimerExpiry s = .next { s with coord := { s.coord with settleTimer := none, settled := true } })

/-- The dwell timer in STOP_HOLD: with the rear supply at the reserve and the spring-cycle list below the budget the bus is
promoted to AUTO_PARK with slot 4 posted, and a RELEASED valve starts an apply attempt; else the promotion is refused,
counted up to 255, and the dwell starts again (R138, R173). -/
def Obligations.DwellExpires : Prop :=
  ∀ (x : Nat) (s : State), s.coord.dwellTimer = some x → x ≤ s.clock.us → s.coord.state = .stopHold →
    (s.settings.params.releaseReserve ≤ supply s.sampling 1 →
      s.coord.springCycles.length < s.settings.params.cycleBudget → s.table[(4 : Slot)] = none →
      anyPark s.table = false → s.park.state = .released →
      ∃ t : State, exec .dwellExpiry s = .next t ∧
        t = { s with coord := t.coord, table := t.table, park := t.park } ∧
        t.coord = { s.coord with state := .autoPark, dwellTimer := none, settleTimer := none, settled := false,
                                 watchOpen := false, withheldTimer := none } ∧
        (∀ j : Slot, j ≠ 4 → t.table[j] = s.table[j]) ∧
        (∃ e : Entry, t.table[(4 : Slot)] = some e ∧ e.cls = .park ∧ e.source = 19 ∧ e.lifetime = none) ∧
        t.park = { s.park with state := .applying, step := some .pulse, pulses := 1,
                               pulseTimer := some (s.clock.us + 150000), confirmTimer := none, retryTimer := none,
                               applyPending := false, wanted := true, withheld := false }) ∧
    (supply s.sampling 1 < s.settings.params.releaseReserve ∨
        s.settings.params.cycleBudget ≤ s.coord.springCycles.length →
      exec .dwellExpiry s = .next { s with coord := { s.coord with
        promotionRefused := min 255 (s.coord.promotionRefused + 1)
        dwellTimer := some (s.clock.us + s.settings.params.promoteDelay * 1000000) } })

/-- The quiet window: CREEP_HOLD returns to AUTO_PARK, slot 3 being released if it stands ACTIVE and the valve is APPLIED, and
in STOP_HOLD and AUTO_PARK the state stands; a new window starts in each (R168, R175, R177). -/
def Obligations.QuietWindowEnds : Prop :=
  ∀ (x : Nat) (s : State), s.coord.quietTimer = some x → x ≤ s.clock.us →
    (s.coord.state = .creepHold →
      ∃ t : State, exec .quietWindowExpiry s = .next t ∧ t = { s with coord := t.coord, table := t.table } ∧
        t.coord = { s.coord with
          state := .autoPark, settleTimer := none, settled := false, dwellTimer := none
          quietTimer := some (s.clock.us + s.settings.params.quietWindow * 1000000)
          armed := decide (s.vref = 0), edges := Vector.replicate 6 0 } ∧
        (∀ j : Slot, j ≠ 3 → t.table[j] = s.table[j]) ∧
        (∀ e : Entry, s.table[(3 : Slot)] = some e →
          t.table[(3 : Slot)] = if e.state = .active ∧ s.park.state = .applied then e.retire else some e)) ∧
    (s.coord.state = .stopHold ∨ s.coord.state = .autoPark →
      exec .quietWindowExpiry s = .next { s with coord := { s.coord with
        quietTimer := some (s.clock.us + s.settings.params.quietWindow * 1000000)
        edges := Vector.replicate 6 0
        armed := decide (s.vref = 0) } })

/-- The withheld-release timer in RUN undoes the drive-off: slot 4 is posted, the state becomes AUTO_PARK, AIR_LOW is set,
the watch closes, the creep window starts, and a valve still APPLIED keeps the springs with RELEASE_WITHHELD cleared
(R138, R140, R179). -/
def Obligations.DriveOffUndone : Prop :=
  ∀ (x : Nat) (s : State), s.coord.withheldTimer = some x → x ≤ s.clock.us → s.coord.state = .run →
    anyPark s.table = false → s.table[(3 : Slot)] = none → s.table[(4 : Slot)] = none → s.park.state = .applied →
    ∃ t : State, exec .withheldReleaseExpiry s = .next t ∧
      t = { s with coord := t.coord, table := t.table, park := t.park } ∧
      t.coord = { s.coord with
        state := .autoPark, airLow := true, watchOpen := false, withheldTimer := none, settleTimer := none
        settled := false, dwellTimer := none
        quietTimer := some (s.clock.us + s.settings.params.quietWindow * 1000000)
        armed := decide (s.vref = 0), edges := Vector.replicate 6 0 } ∧
      t.park = { s.park with wanted := true, withheld := false } ∧
      (∀ j : Slot, j ≠ 4 → t.table[j] = s.table[j]) ∧ (∃ e : Entry, t.table[(4 : Slot)] = some e ∧ e.cls = .park)

/-- The oldest spring-cycle entry leaves the list when its age reaches the cycle window, modulo 2^32, and nothing else
changes (R181). -/
def Obligations.SpringCycleExpires : Prop :=
  ∀ (x : Ms) (rest : List Ms) (s : State), s.coord.springCycles = x :: rest →
    s.settings.params.cycleWindow * 1000 ≤ (s.clock.ms - x).toNat →
    exec .springCycleEntryExpiry s = .next { s with coord := { s.coord with springCycles := rest } }

/-! ### The whole machine -/

/-- Every step keeps the outputs gated: TRIP stands in both cause sets while TRIPPED, both circuits rest in SECURED, and no
pulse runs or waits on a channel whose outputs are cut. Every step keeps the modes where the cause sets put them, and the
sampling unit in watch scan just in SECURED (R120, R123, R125, R134, R150, R151, R153, R161; that a pulse formed but
not begun is dropped too is the model's choice, log entry 15). -/
def Obligations.OutputsStayGated : Prop :=
  (∀ s t : State, outputsGated s → step s = .next t → outputsGated t) ∧
  (∀ s t : State, modesFollow s → step s = .next t → modesFollow t) ∧
  (∀ s t : State, watchesSecured s → step s = .next t → watchesSecured t)

/-- Every step keeps the queues within the bounds of the manual: 8 answers, 2 excerpt frames, 2 waiting excerpts, 16 spring
cycles (R42, R43, R181, R191). -/
def Obligations.QueuesStayBounded : Prop :=
  ∀ s t : State, queuesBounded s → step s = .next t → queuesBounded t

/-- Every step keeps the table of a SECURED bus to PARK entries (R24). -/
def Obligations.SecuredHoldsParksOnly : Prop :=
  ∀ s t : State, securedParksOnly s → step s = .next t → securedParksOnly t

/-- Every step keeps the blend of every entry within 0 to 64, every target within Pmax of its axle, hold_min at most hold_max
in the parameter set and in the image, and the keys of the table in their places: each entry of an internal source in its
home slot, each of a bus source in its partition, no key twice (R1 to R3, R16, R18, R70, R76, R87, R167). -/
def Obligations.BlendsStayBounded : Prop :=
  (∀ s t : State, blendsBounded s.table → step s = .next t → blendsBounded t.table) ∧
  (∀ s t : State, targetsBounded s → step s = .next t → targetsBounded t) ∧
  (∀ s t : State, holdsOrdered s.settings → step s = .next t → holdsOrdered t.settings) ∧
  (∀ s t : State, keysInPlace s.table → step s = .next t → keysInPlace t.table)

/-- A trip is latched: no command but CLEAR_TRIP, or one that can start cold, takes a source out of the latched
set or ends TRIPPED (R156, R161, R163). -/
def Obligations.TripStaysLatched : Prop :=
  ∀ (c : Instr) (s t : State), startsCold s c = false → (∀ a, c ≠ .clearTrip a) → exec c s = .next t →
    (s.trip.tripped = true → t.trip.tripped = true) ∧
    (s.trip.latched.cutLine = true → t.trip.latched.cutLine = true) ∧
    (s.trip.latched.undervolt = true → t.trip.latched.undervolt = true) ∧
    (s.trip.latched.overpressure = true → t.trip.latched.overpressure = true) ∧
    (s.trip.latched.scanStall = true → t.trip.latched.scanStall = true)

/-- A SLIP_FAULT is cleared by no command but one that can start cold: not by a standstill state, a fallback, a
trip or wake (R106). -/
def Obligations.SlipFaultStays : Prop :=
  ∀ (c : Instr) (s t : State) (k : Channel), startsCold s c = false → exec c s = .next t →
    s.slip.fault[k] = true → t.slip.fault[k] = true

/-- A wheel speed changes at edges and timeouts of its own channel alone: no other command but one that can start
cold changes it (R92). -/
def Obligations.SpeedStands : Prop :=
  ∀ (c : Instr) (s t : State) (k : Channel), startsCold s c = false → c ≠ .toothEdge k → c ≠ .toothTimeout k →
    exec c s = .next t → t.wheel[k].speed = s.wheel[k].speed ∧ t.wheel[k].interval = s.wheel[k].interval ∧
      t.wheel[k].lastCapture = s.wheel[k].lastCapture

/-- The state after reset meets the invariants. -/
def Obligations.ResetMeetsInvariants : Prop :=
  outputsGated State.reset ∧ queuesBounded State.reset ∧ securedParksOnly State.reset ∧
    blendsBounded State.reset.table ∧ modesFollow State.reset ∧ watchesSecured State.reset ∧
    targetsBounded State.reset ∧ holdsOrdered State.reset.settings ∧ keysInPlace State.reset.table
end

