-- ==== Sys2Proof/Laws/State.lean ====
section
/-!
SUPPORT. The fields that each named update of the state leaves alone, field by field, true by rfl.
-/

namespace Sys2Proof.Machine

/-! `answer` changes no field but port. -/

@[simp] theorem answer_pending (s : State) (a : Address) (k : Kind) (x : Byte) (o : AnswerCode) (u v w : Byte) : (answer s a k x o u v w).pending = s.pending := by simp only [answer]
@[simp] theorem answer_draws (s : State) (a : Address) (k : Kind) (x : Byte) (o : AnswerCode) (u v w : Byte) : (answer s a k x o u v w).draws = s.draws := by simp only [answer]
@[simp] theorem answer_clock (s : State) (a : Address) (k : Kind) (x : Byte) (o : AnswerCode) (u v w : Byte) : (answer s a k x o u v w).clock = s.clock := by simp only [answer]
@[simp] theorem answer_lines (s : State) (a : Address) (k : Kind) (x : Byte) (o : AnswerCode) (u v w : Byte) : (answer s a k x o u v w).lines = s.lines := by simp only [answer]
@[simp] theorem answer_door (s : State) (a : Address) (k : Kind) (x : Byte) (o : AnswerCode) (u v w : Byte) : (answer s a k x o u v w).door = s.door := by simp only [answer]
@[simp] theorem answer_parkSwitch (s : State) (a : Address) (k : Kind) (x : Byte) (o : AnswerCode) (u v w : Byte) : (answer s a k x o u v w).parkSwitch = s.parkSwitch := by simp only [answer]
@[simp] theorem answer_doorOpenMoving (s : State) (a : Address) (k : Kind) (x : Byte) (o : AnswerCode) (u v w : Byte) : (answer s a k x o u v w).doorOpenMoving = s.doorOpenMoving := by simp only [answer]
@[simp] theorem answer_pedal (s : State) (a : Address) (k : Kind) (x : Byte) (o : AnswerCode) (u v w : Byte) : (answer s a k x o u v w).pedal = s.pedal := by simp only [answer]
@[simp] theorem answer_roster (s : State) (a : Address) (k : Kind) (x : Byte) (o : AnswerCode) (u v w : Byte) : (answer s a k x o u v w).roster = s.roster := by simp only [answer]
@[simp] theorem answer_table (s : State) (a : Address) (k : Kind) (x : Byte) (o : AnswerCode) (u v w : Byte) : (answer s a k x o u v w).table = s.table := by simp only [answer]
@[simp] theorem answer_override (s : State) (a : Address) (k : Kind) (x : Byte) (o : AnswerCode) (u v w : Byte) : (answer s a k x o u v w).override = s.override := by simp only [answer]
@[simp] theorem answer_alloc (s : State) (a : Address) (k : Kind) (x : Byte) (o : AnswerCode) (u v w : Byte) : (answer s a k x o u v w).alloc = s.alloc := by simp only [answer]
@[simp] theorem answer_wheel (s : State) (a : Address) (k : Kind) (x : Byte) (o : AnswerCode) (u v w : Byte) : (answer s a k x o u v w).wheel = s.wheel := by simp only [answer]
@[simp] theorem answer_vref (s : State) (a : Address) (k : Kind) (x : Byte) (o : AnswerCode) (u v w : Byte) : (answer s a k x o u v w).vref = s.vref := by simp only [answer]
@[simp] theorem answer_slip (s : State) (a : Address) (k : Kind) (x : Byte) (o : AnswerCode) (u v w : Byte) : (answer s a k x o u v w).slip = s.slip := by simp only [answer]
@[simp] theorem answer_sampling (s : State) (a : Address) (k : Kind) (x : Byte) (o : AnswerCode) (u v w : Byte) : (answer s a k x o u v w).sampling = s.sampling := by simp only [answer]
@[simp] theorem answer_valve (s : State) (a : Address) (k : Kind) (x : Byte) (o : AnswerCode) (u v w : Byte) : (answer s a k x o u v w).valve = s.valve := by simp only [answer]
@[simp] theorem answer_park (s : State) (a : Address) (k : Kind) (x : Byte) (o : AnswerCode) (u v w : Byte) : (answer s a k x o u v w).park = s.park := by simp only [answer]
@[simp] theorem answer_exercise (s : State) (a : Address) (k : Kind) (x : Byte) (o : AnswerCode) (u v w : Byte) : (answer s a k x o u v w).exercise = s.exercise := by simp only [answer]
@[simp] theorem answer_circuit (s : State) (a : Address) (k : Kind) (x : Byte) (o : AnswerCode) (u v w : Byte) : (answer s a k x o u v w).circuit = s.circuit := by simp only [answer]
@[simp] theorem answer_pedalRun (s : State) (a : Address) (k : Kind) (x : Byte) (o : AnswerCode) (u v w : Byte) : (answer s a k x o u v w).pedalRun = s.pedalRun := by simp only [answer]
@[simp] theorem answer_trip (s : State) (a : Address) (k : Kind) (x : Byte) (o : AnswerCode) (u v w : Byte) : (answer s a k x o u v w).trip = s.trip := by simp only [answer]
@[simp] theorem answer_coord (s : State) (a : Address) (k : Kind) (x : Byte) (o : AnswerCode) (u v w : Byte) : (answer s a k x o u v w).coord = s.coord := by simp only [answer]
@[simp] theorem answer_excerpt (s : State) (a : Address) (k : Kind) (x : Byte) (o : AnswerCode) (u v w : Byte) : (answer s a k x o u v w).excerpt = s.excerpt := by simp only [answer]
@[simp] theorem answer_status (s : State) (a : Address) (k : Kind) (x : Byte) (o : AnswerCode) (u v w : Byte) : (answer s a k x o u v w).status = s.status := by simp only [answer]
@[simp] theorem answer_settings (s : State) (a : Address) (k : Kind) (x : Byte) (o : AnswerCode) (u v w : Byte) : (answer s a k x o u v w).settings = s.settings := by simp only [answer]

/-! `wellFormed` changes no field but roster. -/

@[simp] theorem wellFormed_pending (s : State) (a : Address) : (wellFormed s a).pending = s.pending := by simp only [wellFormed]
@[simp] theorem wellFormed_draws (s : State) (a : Address) : (wellFormed s a).draws = s.draws := by simp only [wellFormed]
@[simp] theorem wellFormed_clock (s : State) (a : Address) : (wellFormed s a).clock = s.clock := by simp only [wellFormed]
@[simp] theorem wellFormed_lines (s : State) (a : Address) : (wellFormed s a).lines = s.lines := by simp only [wellFormed]
@[simp] theorem wellFormed_door (s : State) (a : Address) : (wellFormed s a).door = s.door := by simp only [wellFormed]
@[simp] theorem wellFormed_parkSwitch (s : State) (a : Address) : (wellFormed s a).parkSwitch = s.parkSwitch := by simp only [wellFormed]
@[simp] theorem wellFormed_doorOpenMoving (s : State) (a : Address) : (wellFormed s a).doorOpenMoving = s.doorOpenMoving := by simp only [wellFormed]
@[simp] theorem wellFormed_pedal (s : State) (a : Address) : (wellFormed s a).pedal = s.pedal := by simp only [wellFormed]
@[simp] theorem wellFormed_port (s : State) (a : Address) : (wellFormed s a).port = s.port := by simp only [wellFormed]
@[simp] theorem wellFormed_table (s : State) (a : Address) : (wellFormed s a).table = s.table := by simp only [wellFormed]
@[simp] theorem wellFormed_override (s : State) (a : Address) : (wellFormed s a).override = s.override := by simp only [wellFormed]
@[simp] theorem wellFormed_alloc (s : State) (a : Address) : (wellFormed s a).alloc = s.alloc := by simp only [wellFormed]
@[simp] theorem wellFormed_wheel (s : State) (a : Address) : (wellFormed s a).wheel = s.wheel := by simp only [wellFormed]
@[simp] theorem wellFormed_vref (s : State) (a : Address) : (wellFormed s a).vref = s.vref := by simp only [wellFormed]
@[simp] theorem wellFormed_slip (s : State) (a : Address) : (wellFormed s a).slip = s.slip := by simp only [wellFormed]
@[simp] theorem wellFormed_sampling (s : State) (a : Address) : (wellFormed s a).sampling = s.sampling := by simp only [wellFormed]
@[simp] theorem wellFormed_valve (s : State) (a : Address) : (wellFormed s a).valve = s.valve := by simp only [wellFormed]
@[simp] theorem wellFormed_park (s : State) (a : Address) : (wellFormed s a).park = s.park := by simp only [wellFormed]
@[simp] theorem wellFormed_exercise (s : State) (a : Address) : (wellFormed s a).exercise = s.exercise := by simp only [wellFormed]
@[simp] theorem wellFormed_circuit (s : State) (a : Address) : (wellFormed s a).circuit = s.circuit := by simp only [wellFormed]
@[simp] theorem wellFormed_pedalRun (s : State) (a : Address) : (wellFormed s a).pedalRun = s.pedalRun := by simp only [wellFormed]
@[simp] theorem wellFormed_trip (s : State) (a : Address) : (wellFormed s a).trip = s.trip := by simp only [wellFormed]
@[simp] theorem wellFormed_coord (s : State) (a : Address) : (wellFormed s a).coord = s.coord := by simp only [wellFormed]
@[simp] theorem wellFormed_excerpt (s : State) (a : Address) : (wellFormed s a).excerpt = s.excerpt := by simp only [wellFormed]
@[simp] theorem wellFormed_status (s : State) (a : Address) : (wellFormed s a).status = s.status := by simp only [wellFormed]
@[simp] theorem wellFormed_settings (s : State) (a : Address) : (wellFormed s a).settings = s.settings := by simp only [wellFormed]

/-! `startWindow` changes no field but coord. -/

@[simp] theorem startWindow_pending (s : State) : (startWindow s).pending = s.pending := by simp only [startWindow]
@[simp] theorem startWindow_draws (s : State) : (startWindow s).draws = s.draws := by simp only [startWindow]
@[simp] theorem startWindow_clock (s : State) : (startWindow s).clock = s.clock := by simp only [startWindow]
@[simp] theorem startWindow_lines (s : State) : (startWindow s).lines = s.lines := by simp only [startWindow]
@[simp] theorem startWindow_door (s : State) : (startWindow s).door = s.door := by simp only [startWindow]
@[simp] theorem startWindow_parkSwitch (s : State) : (startWindow s).parkSwitch = s.parkSwitch := by simp only [startWindow]
@[simp] theorem startWindow_doorOpenMoving (s : State) : (startWindow s).doorOpenMoving = s.doorOpenMoving := by simp only [startWindow]
@[simp] theorem startWindow_pedal (s : State) : (startWindow s).pedal = s.pedal := by simp only [startWindow]
@[simp] theorem startWindow_roster (s : State) : (startWindow s).roster = s.roster := by simp only [startWindow]
@[simp] theorem startWindow_port (s : State) : (startWindow s).port = s.port := by simp only [startWindow]
@[simp] theorem startWindow_table (s : State) : (startWindow s).table = s.table := by simp only [startWindow]
@[simp] theorem startWindow_override (s : State) : (startWindow s).override = s.override := by simp only [startWindow]
@[simp] theorem startWindow_alloc (s : State) : (startWindow s).alloc = s.alloc := by simp only [startWindow]
@[simp] theorem startWindow_wheel (s : State) : (startWindow s).wheel = s.wheel := by simp only [startWindow]
@[simp] theorem startWindow_vref (s : State) : (startWindow s).vref = s.vref := by simp only [startWindow]
@[simp] theorem startWindow_slip (s : State) : (startWindow s).slip = s.slip := by simp only [startWindow]
@[simp] theorem startWindow_sampling (s : State) : (startWindow s).sampling = s.sampling := by simp only [startWindow]
@[simp] theorem startWindow_valve (s : State) : (startWindow s).valve = s.valve := by simp only [startWindow]
@[simp] theorem startWindow_park (s : State) : (startWindow s).park = s.park := by simp only [startWindow]
@[simp] theorem startWindow_exercise (s : State) : (startWindow s).exercise = s.exercise := by simp only [startWindow]
@[simp] theorem startWindow_circuit (s : State) : (startWindow s).circuit = s.circuit := by simp only [startWindow]
@[simp] theorem startWindow_pedalRun (s : State) : (startWindow s).pedalRun = s.pedalRun := by simp only [startWindow]
@[simp] theorem startWindow_trip (s : State) : (startWindow s).trip = s.trip := by simp only [startWindow]
@[simp] theorem startWindow_excerpt (s : State) : (startWindow s).excerpt = s.excerpt := by simp only [startWindow]
@[simp] theorem startWindow_status (s : State) : (startWindow s).status = s.status := by simp only [startWindow]
@[simp] theorem startWindow_settings (s : State) : (startWindow s).settings = s.settings := by simp only [startWindow]

/-! `postSlot3` changes no field but table. -/

@[simp] theorem postSlot3_pending (s : State) (v : Nat) : (postSlot3 s v).pending = s.pending := by simp only [postSlot3]
@[simp] theorem postSlot3_draws (s : State) (v : Nat) : (postSlot3 s v).draws = s.draws := by simp only [postSlot3]
@[simp] theorem postSlot3_clock (s : State) (v : Nat) : (postSlot3 s v).clock = s.clock := by simp only [postSlot3]
@[simp] theorem postSlot3_lines (s : State) (v : Nat) : (postSlot3 s v).lines = s.lines := by simp only [postSlot3]
@[simp] theorem postSlot3_door (s : State) (v : Nat) : (postSlot3 s v).door = s.door := by simp only [postSlot3]
@[simp] theorem postSlot3_parkSwitch (s : State) (v : Nat) : (postSlot3 s v).parkSwitch = s.parkSwitch := by simp only [postSlot3]
@[simp] theorem postSlot3_doorOpenMoving (s : State) (v : Nat) : (postSlot3 s v).doorOpenMoving = s.doorOpenMoving := by simp only [postSlot3]
@[simp] theorem postSlot3_pedal (s : State) (v : Nat) : (postSlot3 s v).pedal = s.pedal := by simp only [postSlot3]
@[simp] theorem postSlot3_roster (s : State) (v : Nat) : (postSlot3 s v).roster = s.roster := by simp only [postSlot3]
@[simp] theorem postSlot3_port (s : State) (v : Nat) : (postSlot3 s v).port = s.port := by simp only [postSlot3]
@[simp] theorem postSlot3_override (s : State) (v : Nat) : (postSlot3 s v).override = s.override := by simp only [postSlot3]
@[simp] theorem postSlot3_alloc (s : State) (v : Nat) : (postSlot3 s v).alloc = s.alloc := by simp only [postSlot3]
@[simp] theorem postSlot3_wheel (s : State) (v : Nat) : (postSlot3 s v).wheel = s.wheel := by simp only [postSlot3]
@[simp] theorem postSlot3_vref (s : State) (v : Nat) : (postSlot3 s v).vref = s.vref := by simp only [postSlot3]
@[simp] theorem postSlot3_slip (s : State) (v : Nat) : (postSlot3 s v).slip = s.slip := by simp only [postSlot3]
@[simp] theorem postSlot3_sampling (s : State) (v : Nat) : (postSlot3 s v).sampling = s.sampling := by simp only [postSlot3]
@[simp] theorem postSlot3_valve (s : State) (v : Nat) : (postSlot3 s v).valve = s.valve := by simp only [postSlot3]
@[simp] theorem postSlot3_park (s : State) (v : Nat) : (postSlot3 s v).park = s.park := by simp only [postSlot3]
@[simp] theorem postSlot3_exercise (s : State) (v : Nat) : (postSlot3 s v).exercise = s.exercise := by simp only [postSlot3]
@[simp] theorem postSlot3_circuit (s : State) (v : Nat) : (postSlot3 s v).circuit = s.circuit := by simp only [postSlot3]
@[simp] theorem postSlot3_pedalRun (s : State) (v : Nat) : (postSlot3 s v).pedalRun = s.pedalRun := by simp only [postSlot3]
@[simp] theorem postSlot3_trip (s : State) (v : Nat) : (postSlot3 s v).trip = s.trip := by simp only [postSlot3]
@[simp] theorem postSlot3_coord (s : State) (v : Nat) : (postSlot3 s v).coord = s.coord := by simp only [postSlot3]
@[simp] theorem postSlot3_excerpt (s : State) (v : Nat) : (postSlot3 s v).excerpt = s.excerpt := by simp only [postSlot3]
@[simp] theorem postSlot3_status (s : State) (v : Nat) : (postSlot3 s v).status = s.status := by simp only [postSlot3]
@[simp] theorem postSlot3_settings (s : State) (v : Nat) : (postSlot3 s v).settings = s.settings := by simp only [postSlot3]

/-! `raiseSlot3` changes no field but table. -/

@[simp] theorem raiseSlot3_pending (s : State) : (raiseSlot3 s).pending = s.pending := by simp only [raiseSlot3]
@[simp] theorem raiseSlot3_draws (s : State) : (raiseSlot3 s).draws = s.draws := by simp only [raiseSlot3]
@[simp] theorem raiseSlot3_clock (s : State) : (raiseSlot3 s).clock = s.clock := by simp only [raiseSlot3]
@[simp] theorem raiseSlot3_lines (s : State) : (raiseSlot3 s).lines = s.lines := by simp only [raiseSlot3]
@[simp] theorem raiseSlot3_door (s : State) : (raiseSlot3 s).door = s.door := by simp only [raiseSlot3]
@[simp] theorem raiseSlot3_parkSwitch (s : State) : (raiseSlot3 s).parkSwitch = s.parkSwitch := by simp only [raiseSlot3]
@[simp] theorem raiseSlot3_doorOpenMoving (s : State) : (raiseSlot3 s).doorOpenMoving = s.doorOpenMoving := by simp only [raiseSlot3]
@[simp] theorem raiseSlot3_pedal (s : State) : (raiseSlot3 s).pedal = s.pedal := by simp only [raiseSlot3]
@[simp] theorem raiseSlot3_roster (s : State) : (raiseSlot3 s).roster = s.roster := by simp only [raiseSlot3]
@[simp] theorem raiseSlot3_port (s : State) : (raiseSlot3 s).port = s.port := by simp only [raiseSlot3]
@[simp] theorem raiseSlot3_override (s : State) : (raiseSlot3 s).override = s.override := by simp only [raiseSlot3]
@[simp] theorem raiseSlot3_alloc (s : State) : (raiseSlot3 s).alloc = s.alloc := by simp only [raiseSlot3]
@[simp] theorem raiseSlot3_wheel (s : State) : (raiseSlot3 s).wheel = s.wheel := by simp only [raiseSlot3]
@[simp] theorem raiseSlot3_vref (s : State) : (raiseSlot3 s).vref = s.vref := by simp only [raiseSlot3]
@[simp] theorem raiseSlot3_slip (s : State) : (raiseSlot3 s).slip = s.slip := by simp only [raiseSlot3]
@[simp] theorem raiseSlot3_sampling (s : State) : (raiseSlot3 s).sampling = s.sampling := by simp only [raiseSlot3]
@[simp] theorem raiseSlot3_valve (s : State) : (raiseSlot3 s).valve = s.valve := by simp only [raiseSlot3]
@[simp] theorem raiseSlot3_park (s : State) : (raiseSlot3 s).park = s.park := by simp only [raiseSlot3]
@[simp] theorem raiseSlot3_exercise (s : State) : (raiseSlot3 s).exercise = s.exercise := by simp only [raiseSlot3]
@[simp] theorem raiseSlot3_circuit (s : State) : (raiseSlot3 s).circuit = s.circuit := by simp only [raiseSlot3]
@[simp] theorem raiseSlot3_pedalRun (s : State) : (raiseSlot3 s).pedalRun = s.pedalRun := by simp only [raiseSlot3]
@[simp] theorem raiseSlot3_trip (s : State) : (raiseSlot3 s).trip = s.trip := by simp only [raiseSlot3]
@[simp] theorem raiseSlot3_coord (s : State) : (raiseSlot3 s).coord = s.coord := by simp only [raiseSlot3]
@[simp] theorem raiseSlot3_excerpt (s : State) : (raiseSlot3 s).excerpt = s.excerpt := by simp only [raiseSlot3]
@[simp] theorem raiseSlot3_status (s : State) : (raiseSlot3 s).status = s.status := by simp only [raiseSlot3]
@[simp] theorem raiseSlot3_settings (s : State) : (raiseSlot3 s).settings = s.settings := by simp only [raiseSlot3]

/-! `releaseSlot3` changes no field but table. -/

@[simp] theorem releaseSlot3_pending (s : State) : (releaseSlot3 s).pending = s.pending := by simp only [releaseSlot3]
@[simp] theorem releaseSlot3_draws (s : State) : (releaseSlot3 s).draws = s.draws := by simp only [releaseSlot3]
@[simp] theorem releaseSlot3_clock (s : State) : (releaseSlot3 s).clock = s.clock := by simp only [releaseSlot3]
@[simp] theorem releaseSlot3_lines (s : State) : (releaseSlot3 s).lines = s.lines := by simp only [releaseSlot3]
@[simp] theorem releaseSlot3_door (s : State) : (releaseSlot3 s).door = s.door := by simp only [releaseSlot3]
@[simp] theorem releaseSlot3_parkSwitch (s : State) : (releaseSlot3 s).parkSwitch = s.parkSwitch := by simp only [releaseSlot3]
@[simp] theorem releaseSlot3_doorOpenMoving (s : State) : (releaseSlot3 s).doorOpenMoving = s.doorOpenMoving := by simp only [releaseSlot3]
@[simp] theorem releaseSlot3_pedal (s : State) : (releaseSlot3 s).pedal = s.pedal := by simp only [releaseSlot3]
@[simp] theorem releaseSlot3_roster (s : State) : (releaseSlot3 s).roster = s.roster := by simp only [releaseSlot3]
@[simp] theorem releaseSlot3_port (s : State) : (releaseSlot3 s).port = s.port := by simp only [releaseSlot3]
@[simp] theorem releaseSlot3_override (s : State) : (releaseSlot3 s).override = s.override := by simp only [releaseSlot3]
@[simp] theorem releaseSlot3_alloc (s : State) : (releaseSlot3 s).alloc = s.alloc := by simp only [releaseSlot3]
@[simp] theorem releaseSlot3_wheel (s : State) : (releaseSlot3 s).wheel = s.wheel := by simp only [releaseSlot3]
@[simp] theorem releaseSlot3_vref (s : State) : (releaseSlot3 s).vref = s.vref := by simp only [releaseSlot3]
@[simp] theorem releaseSlot3_slip (s : State) : (releaseSlot3 s).slip = s.slip := by simp only [releaseSlot3]
@[simp] theorem releaseSlot3_sampling (s : State) : (releaseSlot3 s).sampling = s.sampling := by simp only [releaseSlot3]
@[simp] theorem releaseSlot3_valve (s : State) : (releaseSlot3 s).valve = s.valve := by simp only [releaseSlot3]
@[simp] theorem releaseSlot3_park (s : State) : (releaseSlot3 s).park = s.park := by simp only [releaseSlot3]
@[simp] theorem releaseSlot3_exercise (s : State) : (releaseSlot3 s).exercise = s.exercise := by simp only [releaseSlot3]
@[simp] theorem releaseSlot3_circuit (s : State) : (releaseSlot3 s).circuit = s.circuit := by simp only [releaseSlot3]
@[simp] theorem releaseSlot3_pedalRun (s : State) : (releaseSlot3 s).pedalRun = s.pedalRun := by simp only [releaseSlot3]
@[simp] theorem releaseSlot3_trip (s : State) : (releaseSlot3 s).trip = s.trip := by simp only [releaseSlot3]
@[simp] theorem releaseSlot3_coord (s : State) : (releaseSlot3 s).coord = s.coord := by simp only [releaseSlot3]
@[simp] theorem releaseSlot3_excerpt (s : State) : (releaseSlot3 s).excerpt = s.excerpt := by simp only [releaseSlot3]
@[simp] theorem releaseSlot3_status (s : State) : (releaseSlot3 s).status = s.status := by simp only [releaseSlot3]
@[simp] theorem releaseSlot3_settings (s : State) : (releaseSlot3 s).settings = s.settings := by simp only [releaseSlot3]

/-! `postDoor` changes no field but table. -/

@[simp] theorem postDoor_pending (s : State) : (postDoor s).pending = s.pending := by simp only [postDoor]
@[simp] theorem postDoor_draws (s : State) : (postDoor s).draws = s.draws := by simp only [postDoor]
@[simp] theorem postDoor_clock (s : State) : (postDoor s).clock = s.clock := by simp only [postDoor]
@[simp] theorem postDoor_lines (s : State) : (postDoor s).lines = s.lines := by simp only [postDoor]
@[simp] theorem postDoor_door (s : State) : (postDoor s).door = s.door := by simp only [postDoor]
@[simp] theorem postDoor_parkSwitch (s : State) : (postDoor s).parkSwitch = s.parkSwitch := by simp only [postDoor]
@[simp] theorem postDoor_doorOpenMoving (s : State) : (postDoor s).doorOpenMoving = s.doorOpenMoving := by simp only [postDoor]
@[simp] theorem postDoor_pedal (s : State) : (postDoor s).pedal = s.pedal := by simp only [postDoor]
@[simp] theorem postDoor_roster (s : State) : (postDoor s).roster = s.roster := by simp only [postDoor]
@[simp] theorem postDoor_port (s : State) : (postDoor s).port = s.port := by simp only [postDoor]
@[simp] theorem postDoor_override (s : State) : (postDoor s).override = s.override := by simp only [postDoor]
@[simp] theorem postDoor_alloc (s : State) : (postDoor s).alloc = s.alloc := by simp only [postDoor]
@[simp] theorem postDoor_wheel (s : State) : (postDoor s).wheel = s.wheel := by simp only [postDoor]
@[simp] theorem postDoor_vref (s : State) : (postDoor s).vref = s.vref := by simp only [postDoor]
@[simp] theorem postDoor_slip (s : State) : (postDoor s).slip = s.slip := by simp only [postDoor]
@[simp] theorem postDoor_sampling (s : State) : (postDoor s).sampling = s.sampling := by simp only [postDoor]
@[simp] theorem postDoor_valve (s : State) : (postDoor s).valve = s.valve := by simp only [postDoor]
@[simp] theorem postDoor_park (s : State) : (postDoor s).park = s.park := by simp only [postDoor]
@[simp] theorem postDoor_exercise (s : State) : (postDoor s).exercise = s.exercise := by simp only [postDoor]
@[simp] theorem postDoor_circuit (s : State) : (postDoor s).circuit = s.circuit := by simp only [postDoor]
@[simp] theorem postDoor_pedalRun (s : State) : (postDoor s).pedalRun = s.pedalRun := by simp only [postDoor]
@[simp] theorem postDoor_trip (s : State) : (postDoor s).trip = s.trip := by simp only [postDoor]
@[simp] theorem postDoor_coord (s : State) : (postDoor s).coord = s.coord := by simp only [postDoor]
@[simp] theorem postDoor_excerpt (s : State) : (postDoor s).excerpt = s.excerpt := by simp only [postDoor]
@[simp] theorem postDoor_status (s : State) : (postDoor s).status = s.status := by simp only [postDoor]
@[simp] theorem postDoor_settings (s : State) : (postDoor s).settings = s.settings := by simp only [postDoor]

/-! `releaseDoor` changes no field but table. -/

@[simp] theorem releaseDoor_pending (s : State) : (releaseDoor s).pending = s.pending := by simp only [releaseDoor]
@[simp] theorem releaseDoor_draws (s : State) : (releaseDoor s).draws = s.draws := by simp only [releaseDoor]
@[simp] theorem releaseDoor_clock (s : State) : (releaseDoor s).clock = s.clock := by simp only [releaseDoor]
@[simp] theorem releaseDoor_lines (s : State) : (releaseDoor s).lines = s.lines := by simp only [releaseDoor]
@[simp] theorem releaseDoor_door (s : State) : (releaseDoor s).door = s.door := by simp only [releaseDoor]
@[simp] theorem releaseDoor_parkSwitch (s : State) : (releaseDoor s).parkSwitch = s.parkSwitch := by simp only [releaseDoor]
@[simp] theorem releaseDoor_doorOpenMoving (s : State) : (releaseDoor s).doorOpenMoving = s.doorOpenMoving := by simp only [releaseDoor]
@[simp] theorem releaseDoor_pedal (s : State) : (releaseDoor s).pedal = s.pedal := by simp only [releaseDoor]
@[simp] theorem releaseDoor_roster (s : State) : (releaseDoor s).roster = s.roster := by simp only [releaseDoor]
@[simp] theorem releaseDoor_port (s : State) : (releaseDoor s).port = s.port := by simp only [releaseDoor]
@[simp] theorem releaseDoor_override (s : State) : (releaseDoor s).override = s.override := by simp only [releaseDoor]
@[simp] theorem releaseDoor_alloc (s : State) : (releaseDoor s).alloc = s.alloc := by simp only [releaseDoor]
@[simp] theorem releaseDoor_wheel (s : State) : (releaseDoor s).wheel = s.wheel := by simp only [releaseDoor]
@[simp] theorem releaseDoor_vref (s : State) : (releaseDoor s).vref = s.vref := by simp only [releaseDoor]
@[simp] theorem releaseDoor_slip (s : State) : (releaseDoor s).slip = s.slip := by simp only [releaseDoor]
@[simp] theorem releaseDoor_sampling (s : State) : (releaseDoor s).sampling = s.sampling := by simp only [releaseDoor]
@[simp] theorem releaseDoor_valve (s : State) : (releaseDoor s).valve = s.valve := by simp only [releaseDoor]
@[simp] theorem releaseDoor_park (s : State) : (releaseDoor s).park = s.park := by simp only [releaseDoor]
@[simp] theorem releaseDoor_exercise (s : State) : (releaseDoor s).exercise = s.exercise := by simp only [releaseDoor]
@[simp] theorem releaseDoor_circuit (s : State) : (releaseDoor s).circuit = s.circuit := by simp only [releaseDoor]
@[simp] theorem releaseDoor_pedalRun (s : State) : (releaseDoor s).pedalRun = s.pedalRun := by simp only [releaseDoor]
@[simp] theorem releaseDoor_trip (s : State) : (releaseDoor s).trip = s.trip := by simp only [releaseDoor]
@[simp] theorem releaseDoor_coord (s : State) : (releaseDoor s).coord = s.coord := by simp only [releaseDoor]
@[simp] theorem releaseDoor_excerpt (s : State) : (releaseDoor s).excerpt = s.excerpt := by simp only [releaseDoor]
@[simp] theorem releaseDoor_status (s : State) : (releaseDoor s).status = s.status := by simp only [releaseDoor]
@[simp] theorem releaseDoor_settings (s : State) : (releaseDoor s).settings = s.settings := by simp only [releaseDoor]

/-! `evalDoorMoving` changes no field but doorOpenMoving. -/

@[simp] theorem evalDoorMoving_pending (s : State) : (evalDoorMoving s).pending = s.pending := by simp only [evalDoorMoving]
@[simp] theorem evalDoorMoving_draws (s : State) : (evalDoorMoving s).draws = s.draws := by simp only [evalDoorMoving]
@[simp] theorem evalDoorMoving_clock (s : State) : (evalDoorMoving s).clock = s.clock := by simp only [evalDoorMoving]
@[simp] theorem evalDoorMoving_lines (s : State) : (evalDoorMoving s).lines = s.lines := by simp only [evalDoorMoving]
@[simp] theorem evalDoorMoving_door (s : State) : (evalDoorMoving s).door = s.door := by simp only [evalDoorMoving]
@[simp] theorem evalDoorMoving_parkSwitch (s : State) : (evalDoorMoving s).parkSwitch = s.parkSwitch := by simp only [evalDoorMoving]
@[simp] theorem evalDoorMoving_pedal (s : State) : (evalDoorMoving s).pedal = s.pedal := by simp only [evalDoorMoving]
@[simp] theorem evalDoorMoving_roster (s : State) : (evalDoorMoving s).roster = s.roster := by simp only [evalDoorMoving]
@[simp] theorem evalDoorMoving_port (s : State) : (evalDoorMoving s).port = s.port := by simp only [evalDoorMoving]
@[simp] theorem evalDoorMoving_table (s : State) : (evalDoorMoving s).table = s.table := by simp only [evalDoorMoving]
@[simp] theorem evalDoorMoving_override (s : State) : (evalDoorMoving s).override = s.override := by simp only [evalDoorMoving]
@[simp] theorem evalDoorMoving_alloc (s : State) : (evalDoorMoving s).alloc = s.alloc := by simp only [evalDoorMoving]
@[simp] theorem evalDoorMoving_wheel (s : State) : (evalDoorMoving s).wheel = s.wheel := by simp only [evalDoorMoving]
@[simp] theorem evalDoorMoving_vref (s : State) : (evalDoorMoving s).vref = s.vref := by simp only [evalDoorMoving]
@[simp] theorem evalDoorMoving_slip (s : State) : (evalDoorMoving s).slip = s.slip := by simp only [evalDoorMoving]
@[simp] theorem evalDoorMoving_sampling (s : State) : (evalDoorMoving s).sampling = s.sampling := by simp only [evalDoorMoving]
@[simp] theorem evalDoorMoving_valve (s : State) : (evalDoorMoving s).valve = s.valve := by simp only [evalDoorMoving]
@[simp] theorem evalDoorMoving_park (s : State) : (evalDoorMoving s).park = s.park := by simp only [evalDoorMoving]
@[simp] theorem evalDoorMoving_exercise (s : State) : (evalDoorMoving s).exercise = s.exercise := by simp only [evalDoorMoving]
@[simp] theorem evalDoorMoving_circuit (s : State) : (evalDoorMoving s).circuit = s.circuit := by simp only [evalDoorMoving]
@[simp] theorem evalDoorMoving_pedalRun (s : State) : (evalDoorMoving s).pedalRun = s.pedalRun := by simp only [evalDoorMoving]
@[simp] theorem evalDoorMoving_trip (s : State) : (evalDoorMoving s).trip = s.trip := by simp only [evalDoorMoving]
@[simp] theorem evalDoorMoving_coord (s : State) : (evalDoorMoving s).coord = s.coord := by simp only [evalDoorMoving]
@[simp] theorem evalDoorMoving_excerpt (s : State) : (evalDoorMoving s).excerpt = s.excerpt := by simp only [evalDoorMoving]
@[simp] theorem evalDoorMoving_status (s : State) : (evalDoorMoving s).status = s.status := by simp only [evalDoorMoving]
@[simp] theorem evalDoorMoving_settings (s : State) : (evalDoorMoving s).settings = s.settings := by simp only [evalDoorMoving]

/-! `evalOverride` changes no field but override. -/

@[simp] theorem evalOverride_pending (s : State) : (evalOverride s).pending = s.pending := by simp only [evalOverride]
@[simp] theorem evalOverride_draws (s : State) : (evalOverride s).draws = s.draws := by simp only [evalOverride]
@[simp] theorem evalOverride_clock (s : State) : (evalOverride s).clock = s.clock := by simp only [evalOverride]
@[simp] theorem evalOverride_lines (s : State) : (evalOverride s).lines = s.lines := by simp only [evalOverride]
@[simp] theorem evalOverride_door (s : State) : (evalOverride s).door = s.door := by simp only [evalOverride]
@[simp] theorem evalOverride_parkSwitch (s : State) : (evalOverride s).parkSwitch = s.parkSwitch := by simp only [evalOverride]
@[simp] theorem evalOverride_doorOpenMoving (s : State) : (evalOverride s).doorOpenMoving = s.doorOpenMoving := by simp only [evalOverride]
@[simp] theorem evalOverride_pedal (s : State) : (evalOverride s).pedal = s.pedal := by simp only [evalOverride]
@[simp] theorem evalOverride_roster (s : State) : (evalOverride s).roster = s.roster := by simp only [evalOverride]
@[simp] theorem evalOverride_port (s : State) : (evalOverride s).port = s.port := by simp only [evalOverride]
@[simp] theorem evalOverride_table (s : State) : (evalOverride s).table = s.table := by simp only [evalOverride]
@[simp] theorem evalOverride_alloc (s : State) : (evalOverride s).alloc = s.alloc := by simp only [evalOverride]
@[simp] theorem evalOverride_wheel (s : State) : (evalOverride s).wheel = s.wheel := by simp only [evalOverride]
@[simp] theorem evalOverride_vref (s : State) : (evalOverride s).vref = s.vref := by simp only [evalOverride]
@[simp] theorem evalOverride_slip (s : State) : (evalOverride s).slip = s.slip := by simp only [evalOverride]
@[simp] theorem evalOverride_sampling (s : State) : (evalOverride s).sampling = s.sampling := by simp only [evalOverride]
@[simp] theorem evalOverride_valve (s : State) : (evalOverride s).valve = s.valve := by simp only [evalOverride]
@[simp] theorem evalOverride_park (s : State) : (evalOverride s).park = s.park := by simp only [evalOverride]
@[simp] theorem evalOverride_exercise (s : State) : (evalOverride s).exercise = s.exercise := by simp only [evalOverride]
@[simp] theorem evalOverride_circuit (s : State) : (evalOverride s).circuit = s.circuit := by simp only [evalOverride]
@[simp] theorem evalOverride_pedalRun (s : State) : (evalOverride s).pedalRun = s.pedalRun := by simp only [evalOverride]
@[simp] theorem evalOverride_trip (s : State) : (evalOverride s).trip = s.trip := by simp only [evalOverride]
@[simp] theorem evalOverride_coord (s : State) : (evalOverride s).coord = s.coord := by simp only [evalOverride]
@[simp] theorem evalOverride_excerpt (s : State) : (evalOverride s).excerpt = s.excerpt := by simp only [evalOverride]
@[simp] theorem evalOverride_status (s : State) : (evalOverride s).status = s.status := by simp only [evalOverride]
@[simp] theorem evalOverride_settings (s : State) : (evalOverride s).settings = s.settings := by simp only [evalOverride]

/-! `evalSuspects` changes no field but wheel. -/

@[simp] theorem evalSuspects_pending (s : State) : (evalSuspects s).pending = s.pending := by simp only [evalSuspects]
@[simp] theorem evalSuspects_draws (s : State) : (evalSuspects s).draws = s.draws := by simp only [evalSuspects]
@[simp] theorem evalSuspects_clock (s : State) : (evalSuspects s).clock = s.clock := by simp only [evalSuspects]
@[simp] theorem evalSuspects_lines (s : State) : (evalSuspects s).lines = s.lines := by simp only [evalSuspects]
@[simp] theorem evalSuspects_door (s : State) : (evalSuspects s).door = s.door := by simp only [evalSuspects]
@[simp] theorem evalSuspects_parkSwitch (s : State) : (evalSuspects s).parkSwitch = s.parkSwitch := by simp only [evalSuspects]
@[simp] theorem evalSuspects_doorOpenMoving (s : State) : (evalSuspects s).doorOpenMoving = s.doorOpenMoving := by simp only [evalSuspects]
@[simp] theorem evalSuspects_pedal (s : State) : (evalSuspects s).pedal = s.pedal := by simp only [evalSuspects]
@[simp] theorem evalSuspects_roster (s : State) : (evalSuspects s).roster = s.roster := by simp only [evalSuspects]
@[simp] theorem evalSuspects_port (s : State) : (evalSuspects s).port = s.port := by simp only [evalSuspects]
@[simp] theorem evalSuspects_table (s : State) : (evalSuspects s).table = s.table := by simp only [evalSuspects]
@[simp] theorem evalSuspects_override (s : State) : (evalSuspects s).override = s.override := by simp only [evalSuspects]
@[simp] theorem evalSuspects_alloc (s : State) : (evalSuspects s).alloc = s.alloc := by simp only [evalSuspects]
@[simp] theorem evalSuspects_vref (s : State) : (evalSuspects s).vref = s.vref := by simp only [evalSuspects]
@[simp] theorem evalSuspects_slip (s : State) : (evalSuspects s).slip = s.slip := by simp only [evalSuspects]
@[simp] theorem evalSuspects_sampling (s : State) : (evalSuspects s).sampling = s.sampling := by simp only [evalSuspects]
@[simp] theorem evalSuspects_valve (s : State) : (evalSuspects s).valve = s.valve := by simp only [evalSuspects]
@[simp] theorem evalSuspects_park (s : State) : (evalSuspects s).park = s.park := by simp only [evalSuspects]
@[simp] theorem evalSuspects_exercise (s : State) : (evalSuspects s).exercise = s.exercise := by simp only [evalSuspects]
@[simp] theorem evalSuspects_circuit (s : State) : (evalSuspects s).circuit = s.circuit := by simp only [evalSuspects]
@[simp] theorem evalSuspects_pedalRun (s : State) : (evalSuspects s).pedalRun = s.pedalRun := by simp only [evalSuspects]
@[simp] theorem evalSuspects_trip (s : State) : (evalSuspects s).trip = s.trip := by simp only [evalSuspects]
@[simp] theorem evalSuspects_coord (s : State) : (evalSuspects s).coord = s.coord := by simp only [evalSuspects]
@[simp] theorem evalSuspects_excerpt (s : State) : (evalSuspects s).excerpt = s.excerpt := by simp only [evalSuspects]
@[simp] theorem evalSuspects_status (s : State) : (evalSuspects s).status = s.status := by simp only [evalSuspects]
@[simp] theorem evalSuspects_settings (s : State) : (evalSuspects s).settings = s.settings := by simp only [evalSuspects]

/-! `slipSpeed` changes no field but slip. -/

@[simp] theorem slipSpeed_pending (s : State) (v : Nat) : (slipSpeed s v).pending = s.pending := by simp only [slipSpeed]
@[simp] theorem slipSpeed_draws (s : State) (v : Nat) : (slipSpeed s v).draws = s.draws := by simp only [slipSpeed]
@[simp] theorem slipSpeed_clock (s : State) (v : Nat) : (slipSpeed s v).clock = s.clock := by simp only [slipSpeed]
@[simp] theorem slipSpeed_lines (s : State) (v : Nat) : (slipSpeed s v).lines = s.lines := by simp only [slipSpeed]
@[simp] theorem slipSpeed_door (s : State) (v : Nat) : (slipSpeed s v).door = s.door := by simp only [slipSpeed]
@[simp] theorem slipSpeed_parkSwitch (s : State) (v : Nat) : (slipSpeed s v).parkSwitch = s.parkSwitch := by simp only [slipSpeed]
@[simp] theorem slipSpeed_doorOpenMoving (s : State) (v : Nat) : (slipSpeed s v).doorOpenMoving = s.doorOpenMoving := by simp only [slipSpeed]
@[simp] theorem slipSpeed_pedal (s : State) (v : Nat) : (slipSpeed s v).pedal = s.pedal := by simp only [slipSpeed]
@[simp] theorem slipSpeed_roster (s : State) (v : Nat) : (slipSpeed s v).roster = s.roster := by simp only [slipSpeed]
@[simp] theorem slipSpeed_port (s : State) (v : Nat) : (slipSpeed s v).port = s.port := by simp only [slipSpeed]
@[simp] theorem slipSpeed_table (s : State) (v : Nat) : (slipSpeed s v).table = s.table := by simp only [slipSpeed]
@[simp] theorem slipSpeed_override (s : State) (v : Nat) : (slipSpeed s v).override = s.override := by simp only [slipSpeed]
@[simp] theorem slipSpeed_alloc (s : State) (v : Nat) : (slipSpeed s v).alloc = s.alloc := by simp only [slipSpeed]
@[simp] theorem slipSpeed_wheel (s : State) (v : Nat) : (slipSpeed s v).wheel = s.wheel := by simp only [slipSpeed]
@[simp] theorem slipSpeed_vref (s : State) (v : Nat) : (slipSpeed s v).vref = s.vref := by simp only [slipSpeed]
@[simp] theorem slipSpeed_sampling (s : State) (v : Nat) : (slipSpeed s v).sampling = s.sampling := by simp only [slipSpeed]
@[simp] theorem slipSpeed_valve (s : State) (v : Nat) : (slipSpeed s v).valve = s.valve := by simp only [slipSpeed]
@[simp] theorem slipSpeed_park (s : State) (v : Nat) : (slipSpeed s v).park = s.park := by simp only [slipSpeed]
@[simp] theorem slipSpeed_exercise (s : State) (v : Nat) : (slipSpeed s v).exercise = s.exercise := by simp only [slipSpeed]
@[simp] theorem slipSpeed_circuit (s : State) (v : Nat) : (slipSpeed s v).circuit = s.circuit := by simp only [slipSpeed]
@[simp] theorem slipSpeed_pedalRun (s : State) (v : Nat) : (slipSpeed s v).pedalRun = s.pedalRun := by simp only [slipSpeed]
@[simp] theorem slipSpeed_trip (s : State) (v : Nat) : (slipSpeed s v).trip = s.trip := by simp only [slipSpeed]
@[simp] theorem slipSpeed_coord (s : State) (v : Nat) : (slipSpeed s v).coord = s.coord := by simp only [slipSpeed]
@[simp] theorem slipSpeed_excerpt (s : State) (v : Nat) : (slipSpeed s v).excerpt = s.excerpt := by simp only [slipSpeed]
@[simp] theorem slipSpeed_status (s : State) (v : Nat) : (slipSpeed s v).status = s.status := by simp only [slipSpeed]
@[simp] theorem slipSpeed_settings (s : State) (v : Nat) : (slipSpeed s v).settings = s.settings := by simp only [slipSpeed]

/-! `reapply` changes no field but park. -/

@[simp] theorem reapply_pending (s : State) : (reapply s).pending = s.pending := by simp only [reapply]
@[simp] theorem reapply_draws (s : State) : (reapply s).draws = s.draws := by simp only [reapply]
@[simp] theorem reapply_clock (s : State) : (reapply s).clock = s.clock := by simp only [reapply]
@[simp] theorem reapply_lines (s : State) : (reapply s).lines = s.lines := by simp only [reapply]
@[simp] theorem reapply_door (s : State) : (reapply s).door = s.door := by simp only [reapply]
@[simp] theorem reapply_parkSwitch (s : State) : (reapply s).parkSwitch = s.parkSwitch := by simp only [reapply]
@[simp] theorem reapply_doorOpenMoving (s : State) : (reapply s).doorOpenMoving = s.doorOpenMoving := by simp only [reapply]
@[simp] theorem reapply_pedal (s : State) : (reapply s).pedal = s.pedal := by simp only [reapply]
@[simp] theorem reapply_roster (s : State) : (reapply s).roster = s.roster := by simp only [reapply]
@[simp] theorem reapply_port (s : State) : (reapply s).port = s.port := by simp only [reapply]
@[simp] theorem reapply_table (s : State) : (reapply s).table = s.table := by simp only [reapply]
@[simp] theorem reapply_override (s : State) : (reapply s).override = s.override := by simp only [reapply]
@[simp] theorem reapply_alloc (s : State) : (reapply s).alloc = s.alloc := by simp only [reapply]
@[simp] theorem reapply_wheel (s : State) : (reapply s).wheel = s.wheel := by simp only [reapply]
@[simp] theorem reapply_vref (s : State) : (reapply s).vref = s.vref := by simp only [reapply]
@[simp] theorem reapply_slip (s : State) : (reapply s).slip = s.slip := by simp only [reapply]
@[simp] theorem reapply_sampling (s : State) : (reapply s).sampling = s.sampling := by simp only [reapply]
@[simp] theorem reapply_valve (s : State) : (reapply s).valve = s.valve := by simp only [reapply]
@[simp] theorem reapply_exercise (s : State) : (reapply s).exercise = s.exercise := by simp only [reapply]
@[simp] theorem reapply_circuit (s : State) : (reapply s).circuit = s.circuit := by simp only [reapply]
@[simp] theorem reapply_pedalRun (s : State) : (reapply s).pedalRun = s.pedalRun := by simp only [reapply]
@[simp] theorem reapply_trip (s : State) : (reapply s).trip = s.trip := by simp only [reapply]
@[simp] theorem reapply_coord (s : State) : (reapply s).coord = s.coord := by simp only [reapply]
@[simp] theorem reapply_excerpt (s : State) : (reapply s).excerpt = s.excerpt := by simp only [reapply]
@[simp] theorem reapply_status (s : State) : (reapply s).status = s.status := by simp only [reapply]
@[simp] theorem reapply_settings (s : State) : (reapply s).settings = s.settings := by simp only [reapply]

/-! `parkBecomesWanted` changes no field but park, coord. -/

@[simp] theorem parkBecomesWanted_pending (s : State) : (parkBecomesWanted s).pending = s.pending := by simp only [parkBecomesWanted]
@[simp] theorem parkBecomesWanted_draws (s : State) : (parkBecomesWanted s).draws = s.draws := by simp only [parkBecomesWanted]
@[simp] theorem parkBecomesWanted_clock (s : State) : (parkBecomesWanted s).clock = s.clock := by simp only [parkBecomesWanted]
@[simp] theorem parkBecomesWanted_lines (s : State) : (parkBecomesWanted s).lines = s.lines := by simp only [parkBecomesWanted]
@[simp] theorem parkBecomesWanted_door (s : State) : (parkBecomesWanted s).door = s.door := by simp only [parkBecomesWanted]
@[simp] theorem parkBecomesWanted_parkSwitch (s : State) : (parkBecomesWanted s).parkSwitch = s.parkSwitch := by simp only [parkBecomesWanted]
@[simp] theorem parkBecomesWanted_doorOpenMoving (s : State) : (parkBecomesWanted s).doorOpenMoving = s.doorOpenMoving := by simp only [parkBecomesWanted]
@[simp] theorem parkBecomesWanted_pedal (s : State) : (parkBecomesWanted s).pedal = s.pedal := by simp only [parkBecomesWanted]
@[simp] theorem parkBecomesWanted_roster (s : State) : (parkBecomesWanted s).roster = s.roster := by simp only [parkBecomesWanted]
@[simp] theorem parkBecomesWanted_port (s : State) : (parkBecomesWanted s).port = s.port := by simp only [parkBecomesWanted]
@[simp] theorem parkBecomesWanted_table (s : State) : (parkBecomesWanted s).table = s.table := by simp only [parkBecomesWanted]
@[simp] theorem parkBecomesWanted_override (s : State) : (parkBecomesWanted s).override = s.override := by simp only [parkBecomesWanted]
@[simp] theorem parkBecomesWanted_alloc (s : State) : (parkBecomesWanted s).alloc = s.alloc := by simp only [parkBecomesWanted]
@[simp] theorem parkBecomesWanted_wheel (s : State) : (parkBecomesWanted s).wheel = s.wheel := by simp only [parkBecomesWanted]
@[simp] theorem parkBecomesWanted_vref (s : State) : (parkBecomesWanted s).vref = s.vref := by simp only [parkBecomesWanted]
@[simp] theorem parkBecomesWanted_slip (s : State) : (parkBecomesWanted s).slip = s.slip := by simp only [parkBecomesWanted]
@[simp] theorem parkBecomesWanted_sampling (s : State) : (parkBecomesWanted s).sampling = s.sampling := by simp only [parkBecomesWanted]
@[simp] theorem parkBecomesWanted_valve (s : State) : (parkBecomesWanted s).valve = s.valve := by simp only [parkBecomesWanted]
@[simp] theorem parkBecomesWanted_exercise (s : State) : (parkBecomesWanted s).exercise = s.exercise := by simp only [parkBecomesWanted]
@[simp] theorem parkBecomesWanted_circuit (s : State) : (parkBecomesWanted s).circuit = s.circuit := by simp only [parkBecomesWanted]
@[simp] theorem parkBecomesWanted_pedalRun (s : State) : (parkBecomesWanted s).pedalRun = s.pedalRun := by simp only [parkBecomesWanted]
@[simp] theorem parkBecomesWanted_trip (s : State) : (parkBecomesWanted s).trip = s.trip := by simp only [parkBecomesWanted]
@[simp] theorem parkBecomesWanted_excerpt (s : State) : (parkBecomesWanted s).excerpt = s.excerpt := by simp only [parkBecomesWanted]
@[simp] theorem parkBecomesWanted_status (s : State) : (parkBecomesWanted s).status = s.status := by simp only [parkBecomesWanted]
@[simp] theorem parkBecomesWanted_settings (s : State) : (parkBecomesWanted s).settings = s.settings := by simp only [parkBecomesWanted]

/-! `formStatus` changes no field but port, status, override. -/

@[simp] theorem formStatus_pending (s : State) : (formStatus s).pending = s.pending := by simp only [formStatus]
@[simp] theorem formStatus_draws (s : State) : (formStatus s).draws = s.draws := by simp only [formStatus]
@[simp] theorem formStatus_clock (s : State) : (formStatus s).clock = s.clock := by simp only [formStatus]
@[simp] theorem formStatus_lines (s : State) : (formStatus s).lines = s.lines := by simp only [formStatus]
@[simp] theorem formStatus_door (s : State) : (formStatus s).door = s.door := by simp only [formStatus]
@[simp] theorem formStatus_parkSwitch (s : State) : (formStatus s).parkSwitch = s.parkSwitch := by simp only [formStatus]
@[simp] theorem formStatus_doorOpenMoving (s : State) : (formStatus s).doorOpenMoving = s.doorOpenMoving := by simp only [formStatus]
@[simp] theorem formStatus_pedal (s : State) : (formStatus s).pedal = s.pedal := by simp only [formStatus]
@[simp] theorem formStatus_roster (s : State) : (formStatus s).roster = s.roster := by simp only [formStatus]
@[simp] theorem formStatus_table (s : State) : (formStatus s).table = s.table := by simp only [formStatus]
@[simp] theorem formStatus_alloc (s : State) : (formStatus s).alloc = s.alloc := by simp only [formStatus]
@[simp] theorem formStatus_wheel (s : State) : (formStatus s).wheel = s.wheel := by simp only [formStatus]
@[simp] theorem formStatus_vref (s : State) : (formStatus s).vref = s.vref := by simp only [formStatus]
@[simp] theorem formStatus_slip (s : State) : (formStatus s).slip = s.slip := by simp only [formStatus]
@[simp] theorem formStatus_sampling (s : State) : (formStatus s).sampling = s.sampling := by simp only [formStatus]
@[simp] theorem formStatus_valve (s : State) : (formStatus s).valve = s.valve := by simp only [formStatus]
@[simp] theorem formStatus_park (s : State) : (formStatus s).park = s.park := by simp only [formStatus]
@[simp] theorem formStatus_exercise (s : State) : (formStatus s).exercise = s.exercise := by simp only [formStatus]
@[simp] theorem formStatus_circuit (s : State) : (formStatus s).circuit = s.circuit := by simp only [formStatus]
@[simp] theorem formStatus_pedalRun (s : State) : (formStatus s).pedalRun = s.pedalRun := by simp only [formStatus]
@[simp] theorem formStatus_trip (s : State) : (formStatus s).trip = s.trip := by simp only [formStatus]
@[simp] theorem formStatus_coord (s : State) : (formStatus s).coord = s.coord := by simp only [formStatus]
@[simp] theorem formStatus_excerpt (s : State) : (formStatus s).excerpt = s.excerpt := by simp only [formStatus]
@[simp] theorem formStatus_settings (s : State) : (formStatus s).settings = s.settings := by simp only [formStatus]

/-! `writeModes` changes no field but circuit, alloc, slip, valve. -/

@[simp] theorem writeModes_pending (s : State) (m : CircuitId → Mode) : (writeModes s m).pending = s.pending := by simp only [writeModes]
@[simp] theorem writeModes_draws (s : State) (m : CircuitId → Mode) : (writeModes s m).draws = s.draws := by simp only [writeModes]
@[simp] theorem writeModes_clock (s : State) (m : CircuitId → Mode) : (writeModes s m).clock = s.clock := by simp only [writeModes]
@[simp] theorem writeModes_lines (s : State) (m : CircuitId → Mode) : (writeModes s m).lines = s.lines := by simp only [writeModes]
@[simp] theorem writeModes_door (s : State) (m : CircuitId → Mode) : (writeModes s m).door = s.door := by simp only [writeModes]
@[simp] theorem writeModes_parkSwitch (s : State) (m : CircuitId → Mode) : (writeModes s m).parkSwitch = s.parkSwitch := by simp only [writeModes]
@[simp] theorem writeModes_doorOpenMoving (s : State) (m : CircuitId → Mode) : (writeModes s m).doorOpenMoving = s.doorOpenMoving := by simp only [writeModes]
@[simp] theorem writeModes_pedal (s : State) (m : CircuitId → Mode) : (writeModes s m).pedal = s.pedal := by simp only [writeModes]
@[simp] theorem writeModes_roster (s : State) (m : CircuitId → Mode) : (writeModes s m).roster = s.roster := by simp only [writeModes]
@[simp] theorem writeModes_port (s : State) (m : CircuitId → Mode) : (writeModes s m).port = s.port := by simp only [writeModes]
@[simp] theorem writeModes_table (s : State) (m : CircuitId → Mode) : (writeModes s m).table = s.table := by simp only [writeModes]
@[simp] theorem writeModes_override (s : State) (m : CircuitId → Mode) : (writeModes s m).override = s.override := by simp only [writeModes]
@[simp] theorem writeModes_wheel (s : State) (m : CircuitId → Mode) : (writeModes s m).wheel = s.wheel := by simp only [writeModes]
@[simp] theorem writeModes_vref (s : State) (m : CircuitId → Mode) : (writeModes s m).vref = s.vref := by simp only [writeModes]
@[simp] theorem writeModes_sampling (s : State) (m : CircuitId → Mode) : (writeModes s m).sampling = s.sampling := by simp only [writeModes]
@[simp] theorem writeModes_park (s : State) (m : CircuitId → Mode) : (writeModes s m).park = s.park := by simp only [writeModes]
@[simp] theorem writeModes_exercise (s : State) (m : CircuitId → Mode) : (writeModes s m).exercise = s.exercise := by simp only [writeModes]
@[simp] theorem writeModes_pedalRun (s : State) (m : CircuitId → Mode) : (writeModes s m).pedalRun = s.pedalRun := by simp only [writeModes]
@[simp] theorem writeModes_trip (s : State) (m : CircuitId → Mode) : (writeModes s m).trip = s.trip := by simp only [writeModes]
@[simp] theorem writeModes_coord (s : State) (m : CircuitId → Mode) : (writeModes s m).coord = s.coord := by simp only [writeModes]
@[simp] theorem writeModes_excerpt (s : State) (m : CircuitId → Mode) : (writeModes s m).excerpt = s.excerpt := by simp only [writeModes]
@[simp] theorem writeModes_status (s : State) (m : CircuitId → Mode) : (writeModes s m).status = s.status := by simp only [writeModes]
@[simp] theorem writeModes_settings (s : State) (m : CircuitId → Mode) : (writeModes s m).settings = s.settings := by simp only [writeModes]

/-! `allocate` changes no field but table, alloc, slip, valve. -/

@[simp] theorem allocate_pending (s : State) : (allocate s).pending = s.pending := by simp only [allocate]
@[simp] theorem allocate_draws (s : State) : (allocate s).draws = s.draws := by simp only [allocate]
@[simp] theorem allocate_clock (s : State) : (allocate s).clock = s.clock := by simp only [allocate]
@[simp] theorem allocate_lines (s : State) : (allocate s).lines = s.lines := by simp only [allocate]
@[simp] theorem allocate_door (s : State) : (allocate s).door = s.door := by simp only [allocate]
@[simp] theorem allocate_parkSwitch (s : State) : (allocate s).parkSwitch = s.parkSwitch := by simp only [allocate]
@[simp] theorem allocate_doorOpenMoving (s : State) : (allocate s).doorOpenMoving = s.doorOpenMoving := by simp only [allocate]
@[simp] theorem allocate_pedal (s : State) : (allocate s).pedal = s.pedal := by simp only [allocate]
@[simp] theorem allocate_roster (s : State) : (allocate s).roster = s.roster := by simp only [allocate]
@[simp] theorem allocate_port (s : State) : (allocate s).port = s.port := by simp only [allocate]
@[simp] theorem allocate_override (s : State) : (allocate s).override = s.override := by simp only [allocate]
@[simp] theorem allocate_wheel (s : State) : (allocate s).wheel = s.wheel := by simp only [allocate]
@[simp] theorem allocate_vref (s : State) : (allocate s).vref = s.vref := by simp only [allocate]
@[simp] theorem allocate_sampling (s : State) : (allocate s).sampling = s.sampling := by simp only [allocate]
@[simp] theorem allocate_park (s : State) : (allocate s).park = s.park := by simp only [allocate]
@[simp] theorem allocate_exercise (s : State) : (allocate s).exercise = s.exercise := by simp only [allocate]
@[simp] theorem allocate_circuit (s : State) : (allocate s).circuit = s.circuit := by simp only [allocate]
@[simp] theorem allocate_pedalRun (s : State) : (allocate s).pedalRun = s.pedalRun := by simp only [allocate]
@[simp] theorem allocate_trip (s : State) : (allocate s).trip = s.trip := by simp only [allocate]
@[simp] theorem allocate_coord (s : State) : (allocate s).coord = s.coord := by simp only [allocate]
@[simp] theorem allocate_excerpt (s : State) : (allocate s).excerpt = s.excerpt := by simp only [allocate]
@[simp] theorem allocate_status (s : State) : (allocate s).status = s.status := by simp only [allocate]
@[simp] theorem allocate_settings (s : State) : (allocate s).settings = s.settings := by simp only [allocate]

/-! `pedalScan` changes no field but pedal, table. -/

@[simp] theorem pedalScan_pending (s : State) : (pedalScan s).pending = s.pending := by simp only [pedalScan]
@[simp] theorem pedalScan_draws (s : State) : (pedalScan s).draws = s.draws := by simp only [pedalScan]
@[simp] theorem pedalScan_clock (s : State) : (pedalScan s).clock = s.clock := by simp only [pedalScan]
@[simp] theorem pedalScan_lines (s : State) : (pedalScan s).lines = s.lines := by simp only [pedalScan]
@[simp] theorem pedalScan_door (s : State) : (pedalScan s).door = s.door := by simp only [pedalScan]
@[simp] theorem pedalScan_parkSwitch (s : State) : (pedalScan s).parkSwitch = s.parkSwitch := by simp only [pedalScan]
@[simp] theorem pedalScan_doorOpenMoving (s : State) : (pedalScan s).doorOpenMoving = s.doorOpenMoving := by simp only [pedalScan]
@[simp] theorem pedalScan_roster (s : State) : (pedalScan s).roster = s.roster := by simp only [pedalScan]
@[simp] theorem pedalScan_port (s : State) : (pedalScan s).port = s.port := by simp only [pedalScan]
@[simp] theorem pedalScan_override (s : State) : (pedalScan s).override = s.override := by simp only [pedalScan]
@[simp] theorem pedalScan_alloc (s : State) : (pedalScan s).alloc = s.alloc := by simp only [pedalScan]
@[simp] theorem pedalScan_wheel (s : State) : (pedalScan s).wheel = s.wheel := by simp only [pedalScan]
@[simp] theorem pedalScan_vref (s : State) : (pedalScan s).vref = s.vref := by simp only [pedalScan]
@[simp] theorem pedalScan_slip (s : State) : (pedalScan s).slip = s.slip := by simp only [pedalScan]
@[simp] theorem pedalScan_sampling (s : State) : (pedalScan s).sampling = s.sampling := by simp only [pedalScan]
@[simp] theorem pedalScan_valve (s : State) : (pedalScan s).valve = s.valve := by simp only [pedalScan]
@[simp] theorem pedalScan_park (s : State) : (pedalScan s).park = s.park := by simp only [pedalScan]
@[simp] theorem pedalScan_exercise (s : State) : (pedalScan s).exercise = s.exercise := by simp only [pedalScan]
@[simp] theorem pedalScan_circuit (s : State) : (pedalScan s).circuit = s.circuit := by simp only [pedalScan]
@[simp] theorem pedalScan_pedalRun (s : State) : (pedalScan s).pedalRun = s.pedalRun := by simp only [pedalScan]
@[simp] theorem pedalScan_trip (s : State) : (pedalScan s).trip = s.trip := by simp only [pedalScan]
@[simp] theorem pedalScan_coord (s : State) : (pedalScan s).coord = s.coord := by simp only [pedalScan]
@[simp] theorem pedalScan_excerpt (s : State) : (pedalScan s).excerpt = s.excerpt := by simp only [pedalScan]
@[simp] theorem pedalScan_status (s : State) : (pedalScan s).status = s.status := by simp only [pedalScan]
@[simp] theorem pedalScan_settings (s : State) : (pedalScan s).settings = s.settings := by simp only [pedalScan]

/-! `supervise` changes no field but circuit, pedalRun. -/

@[simp] theorem supervise_pending (s : State) (g : Sampling) : (supervise s g).pending = s.pending := by simp only [supervise]
@[simp] theorem supervise_draws (s : State) (g : Sampling) : (supervise s g).draws = s.draws := by simp only [supervise]
@[simp] theorem supervise_clock (s : State) (g : Sampling) : (supervise s g).clock = s.clock := by simp only [supervise]
@[simp] theorem supervise_lines (s : State) (g : Sampling) : (supervise s g).lines = s.lines := by simp only [supervise]
@[simp] theorem supervise_door (s : State) (g : Sampling) : (supervise s g).door = s.door := by simp only [supervise]
@[simp] theorem supervise_parkSwitch (s : State) (g : Sampling) : (supervise s g).parkSwitch = s.parkSwitch := by simp only [supervise]
@[simp] theorem supervise_doorOpenMoving (s : State) (g : Sampling) : (supervise s g).doorOpenMoving = s.doorOpenMoving := by simp only [supervise]
@[simp] theorem supervise_pedal (s : State) (g : Sampling) : (supervise s g).pedal = s.pedal := by simp only [supervise]
@[simp] theorem supervise_roster (s : State) (g : Sampling) : (supervise s g).roster = s.roster := by simp only [supervise]
@[simp] theorem supervise_port (s : State) (g : Sampling) : (supervise s g).port = s.port := by simp only [supervise]
@[simp] theorem supervise_table (s : State) (g : Sampling) : (supervise s g).table = s.table := by simp only [supervise]
@[simp] theorem supervise_override (s : State) (g : Sampling) : (supervise s g).override = s.override := by simp only [supervise]
@[simp] theorem supervise_alloc (s : State) (g : Sampling) : (supervise s g).alloc = s.alloc := by simp only [supervise]
@[simp] theorem supervise_wheel (s : State) (g : Sampling) : (supervise s g).wheel = s.wheel := by simp only [supervise]
@[simp] theorem supervise_vref (s : State) (g : Sampling) : (supervise s g).vref = s.vref := by simp only [supervise]
@[simp] theorem supervise_slip (s : State) (g : Sampling) : (supervise s g).slip = s.slip := by simp only [supervise]
@[simp] theorem supervise_sampling (s : State) (g : Sampling) : (supervise s g).sampling = s.sampling := by simp only [supervise]
@[simp] theorem supervise_valve (s : State) (g : Sampling) : (supervise s g).valve = s.valve := by simp only [supervise]
@[simp] theorem supervise_park (s : State) (g : Sampling) : (supervise s g).park = s.park := by simp only [supervise]
@[simp] theorem supervise_exercise (s : State) (g : Sampling) : (supervise s g).exercise = s.exercise := by simp only [supervise]
@[simp] theorem supervise_trip (s : State) (g : Sampling) : (supervise s g).trip = s.trip := by simp only [supervise]
@[simp] theorem supervise_coord (s : State) (g : Sampling) : (supervise s g).coord = s.coord := by simp only [supervise]
@[simp] theorem supervise_excerpt (s : State) (g : Sampling) : (supervise s g).excerpt = s.excerpt := by simp only [supervise]
@[simp] theorem supervise_status (s : State) (g : Sampling) : (supervise s g).status = s.status := by simp only [supervise]
@[simp] theorem supervise_settings (s : State) (g : Sampling) : (supervise s g).settings = s.settings := by simp only [supervise]

/-! `fireOverride` changes no field but table, override. -/

@[simp] theorem fireOverride_pending (s : State) : (fireOverride s).pending = s.pending := by simp only [fireOverride]
@[simp] theorem fireOverride_draws (s : State) : (fireOverride s).draws = s.draws := by simp only [fireOverride]
@[simp] theorem fireOverride_clock (s : State) : (fireOverride s).clock = s.clock := by simp only [fireOverride]
@[simp] theorem fireOverride_lines (s : State) : (fireOverride s).lines = s.lines := by simp only [fireOverride]
@[simp] theorem fireOverride_door (s : State) : (fireOverride s).door = s.door := by simp only [fireOverride]
@[simp] theorem fireOverride_parkSwitch (s : State) : (fireOverride s).parkSwitch = s.parkSwitch := by simp only [fireOverride]
@[simp] theorem fireOverride_doorOpenMoving (s : State) : (fireOverride s).doorOpenMoving = s.doorOpenMoving := by simp only [fireOverride]
@[simp] theorem fireOverride_pedal (s : State) : (fireOverride s).pedal = s.pedal := by simp only [fireOverride]
@[simp] theorem fireOverride_roster (s : State) : (fireOverride s).roster = s.roster := by simp only [fireOverride]
@[simp] theorem fireOverride_port (s : State) : (fireOverride s).port = s.port := by simp only [fireOverride]
@[simp] theorem fireOverride_alloc (s : State) : (fireOverride s).alloc = s.alloc := by simp only [fireOverride]
@[simp] theorem fireOverride_wheel (s : State) : (fireOverride s).wheel = s.wheel := by simp only [fireOverride]
@[simp] theorem fireOverride_vref (s : State) : (fireOverride s).vref = s.vref := by simp only [fireOverride]
@[simp] theorem fireOverride_slip (s : State) : (fireOverride s).slip = s.slip := by simp only [fireOverride]
@[simp] theorem fireOverride_sampling (s : State) : (fireOverride s).sampling = s.sampling := by simp only [fireOverride]
@[simp] theorem fireOverride_valve (s : State) : (fireOverride s).valve = s.valve := by simp only [fireOverride]
@[simp] theorem fireOverride_park (s : State) : (fireOverride s).park = s.park := by simp only [fireOverride]
@[simp] theorem fireOverride_exercise (s : State) : (fireOverride s).exercise = s.exercise := by simp only [fireOverride]
@[simp] theorem fireOverride_circuit (s : State) : (fireOverride s).circuit = s.circuit := by simp only [fireOverride]
@[simp] theorem fireOverride_pedalRun (s : State) : (fireOverride s).pedalRun = s.pedalRun := by simp only [fireOverride]
@[simp] theorem fireOverride_trip (s : State) : (fireOverride s).trip = s.trip := by simp only [fireOverride]
@[simp] theorem fireOverride_coord (s : State) : (fireOverride s).coord = s.coord := by simp only [fireOverride]
@[simp] theorem fireOverride_excerpt (s : State) : (fireOverride s).excerpt = s.excerpt := by simp only [fireOverride]
@[simp] theorem fireOverride_status (s : State) : (fireOverride s).status = s.status := by simp only [fireOverride]
@[simp] theorem fireOverride_settings (s : State) : (fireOverride s).settings = s.settings := by simp only [fireOverride]

/-! `drawn` changes no field but draws. -/

@[simp] theorem drawn_pending (s : State) : (drawn s).pending = s.pending := by simp only [drawn]
@[simp] theorem drawn_clock (s : State) : (drawn s).clock = s.clock := by simp only [drawn]
@[simp] theorem drawn_lines (s : State) : (drawn s).lines = s.lines := by simp only [drawn]
@[simp] theorem drawn_door (s : State) : (drawn s).door = s.door := by simp only [drawn]
@[simp] theorem drawn_parkSwitch (s : State) : (drawn s).parkSwitch = s.parkSwitch := by simp only [drawn]
@[simp] theorem drawn_doorOpenMoving (s : State) : (drawn s).doorOpenMoving = s.doorOpenMoving := by simp only [drawn]
@[simp] theorem drawn_pedal (s : State) : (drawn s).pedal = s.pedal := by simp only [drawn]
@[simp] theorem drawn_roster (s : State) : (drawn s).roster = s.roster := by simp only [drawn]
@[simp] theorem drawn_port (s : State) : (drawn s).port = s.port := by simp only [drawn]
@[simp] theorem drawn_table (s : State) : (drawn s).table = s.table := by simp only [drawn]
@[simp] theorem drawn_override (s : State) : (drawn s).override = s.override := by simp only [drawn]
@[simp] theorem drawn_alloc (s : State) : (drawn s).alloc = s.alloc := by simp only [drawn]
@[simp] theorem drawn_wheel (s : State) : (drawn s).wheel = s.wheel := by simp only [drawn]
@[simp] theorem drawn_vref (s : State) : (drawn s).vref = s.vref := by simp only [drawn]
@[simp] theorem drawn_slip (s : State) : (drawn s).slip = s.slip := by simp only [drawn]
@[simp] theorem drawn_sampling (s : State) : (drawn s).sampling = s.sampling := by simp only [drawn]
@[simp] theorem drawn_valve (s : State) : (drawn s).valve = s.valve := by simp only [drawn]
@[simp] theorem drawn_park (s : State) : (drawn s).park = s.park := by simp only [drawn]
@[simp] theorem drawn_exercise (s : State) : (drawn s).exercise = s.exercise := by simp only [drawn]
@[simp] theorem drawn_circuit (s : State) : (drawn s).circuit = s.circuit := by simp only [drawn]
@[simp] theorem drawn_pedalRun (s : State) : (drawn s).pedalRun = s.pedalRun := by simp only [drawn]
@[simp] theorem drawn_trip (s : State) : (drawn s).trip = s.trip := by simp only [drawn]
@[simp] theorem drawn_coord (s : State) : (drawn s).coord = s.coord := by simp only [drawn]
@[simp] theorem drawn_excerpt (s : State) : (drawn s).excerpt = s.excerpt := by simp only [drawn]
@[simp] theorem drawn_status (s : State) : (drawn s).status = s.status := by simp only [drawn]
@[simp] theorem drawn_settings (s : State) : (drawn s).settings = s.settings := by simp only [drawn]

/-! `deadlineEvent` changes no field but table. -/

@[simp] theorem deadlineEvent_pending (s : State) (i : Slot) : (deadlineEvent s i).pending = s.pending := by simp only [deadlineEvent]
@[simp] theorem deadlineEvent_draws (s : State) (i : Slot) : (deadlineEvent s i).draws = s.draws := by simp only [deadlineEvent]
@[simp] theorem deadlineEvent_clock (s : State) (i : Slot) : (deadlineEvent s i).clock = s.clock := by simp only [deadlineEvent]
@[simp] theorem deadlineEvent_lines (s : State) (i : Slot) : (deadlineEvent s i).lines = s.lines := by simp only [deadlineEvent]
@[simp] theorem deadlineEvent_door (s : State) (i : Slot) : (deadlineEvent s i).door = s.door := by simp only [deadlineEvent]
@[simp] theorem deadlineEvent_parkSwitch (s : State) (i : Slot) : (deadlineEvent s i).parkSwitch = s.parkSwitch := by simp only [deadlineEvent]
@[simp] theorem deadlineEvent_doorOpenMoving (s : State) (i : Slot) : (deadlineEvent s i).doorOpenMoving = s.doorOpenMoving := by simp only [deadlineEvent]
@[simp] theorem deadlineEvent_pedal (s : State) (i : Slot) : (deadlineEvent s i).pedal = s.pedal := by simp only [deadlineEvent]
@[simp] theorem deadlineEvent_roster (s : State) (i : Slot) : (deadlineEvent s i).roster = s.roster := by simp only [deadlineEvent]
@[simp] theorem deadlineEvent_port (s : State) (i : Slot) : (deadlineEvent s i).port = s.port := by simp only [deadlineEvent]
@[simp] theorem deadlineEvent_override (s : State) (i : Slot) : (deadlineEvent s i).override = s.override := by simp only [deadlineEvent]
@[simp] theorem deadlineEvent_alloc (s : State) (i : Slot) : (deadlineEvent s i).alloc = s.alloc := by simp only [deadlineEvent]
@[simp] theorem deadlineEvent_wheel (s : State) (i : Slot) : (deadlineEvent s i).wheel = s.wheel := by simp only [deadlineEvent]
@[simp] theorem deadlineEvent_vref (s : State) (i : Slot) : (deadlineEvent s i).vref = s.vref := by simp only [deadlineEvent]
@[simp] theorem deadlineEvent_slip (s : State) (i : Slot) : (deadlineEvent s i).slip = s.slip := by simp only [deadlineEvent]
@[simp] theorem deadlineEvent_sampling (s : State) (i : Slot) : (deadlineEvent s i).sampling = s.sampling := by simp only [deadlineEvent]
@[simp] theorem deadlineEvent_valve (s : State) (i : Slot) : (deadlineEvent s i).valve = s.valve := by simp only [deadlineEvent]
@[simp] theorem deadlineEvent_park (s : State) (i : Slot) : (deadlineEvent s i).park = s.park := by simp only [deadlineEvent]
@[simp] theorem deadlineEvent_exercise (s : State) (i : Slot) : (deadlineEvent s i).exercise = s.exercise := by simp only [deadlineEvent]
@[simp] theorem deadlineEvent_circuit (s : State) (i : Slot) : (deadlineEvent s i).circuit = s.circuit := by simp only [deadlineEvent]
@[simp] theorem deadlineEvent_pedalRun (s : State) (i : Slot) : (deadlineEvent s i).pedalRun = s.pedalRun := by simp only [deadlineEvent]
@[simp] theorem deadlineEvent_trip (s : State) (i : Slot) : (deadlineEvent s i).trip = s.trip := by simp only [deadlineEvent]
@[simp] theorem deadlineEvent_coord (s : State) (i : Slot) : (deadlineEvent s i).coord = s.coord := by simp only [deadlineEvent]
@[simp] theorem deadlineEvent_excerpt (s : State) (i : Slot) : (deadlineEvent s i).excerpt = s.excerpt := by simp only [deadlineEvent]
@[simp] theorem deadlineEvent_status (s : State) (i : Slot) : (deadlineEvent s i).status = s.status := by simp only [deadlineEvent]
@[simp] theorem deadlineEvent_settings (s : State) (i : Slot) : (deadlineEvent s i).settings = s.settings := by simp only [deadlineEvent]

/-! `startStore` changes no field but settings. -/

@[simp] theorem startStore_pending (s : State) (a : Address) : (startStore s a).pending = s.pending := by simp only [startStore]
@[simp] theorem startStore_draws (s : State) (a : Address) : (startStore s a).draws = s.draws := by simp only [startStore]
@[simp] theorem startStore_clock (s : State) (a : Address) : (startStore s a).clock = s.clock := by simp only [startStore]
@[simp] theorem startStore_lines (s : State) (a : Address) : (startStore s a).lines = s.lines := by simp only [startStore]
@[simp] theorem startStore_door (s : State) (a : Address) : (startStore s a).door = s.door := by simp only [startStore]
@[simp] theorem startStore_parkSwitch (s : State) (a : Address) : (startStore s a).parkSwitch = s.parkSwitch := by simp only [startStore]
@[simp] theorem startStore_doorOpenMoving (s : State) (a : Address) : (startStore s a).doorOpenMoving = s.doorOpenMoving := by simp only [startStore]
@[simp] theorem startStore_pedal (s : State) (a : Address) : (startStore s a).pedal = s.pedal := by simp only [startStore]
@[simp] theorem startStore_roster (s : State) (a : Address) : (startStore s a).roster = s.roster := by simp only [startStore]
@[simp] theorem startStore_port (s : State) (a : Address) : (startStore s a).port = s.port := by simp only [startStore]
@[simp] theorem startStore_table (s : State) (a : Address) : (startStore s a).table = s.table := by simp only [startStore]
@[simp] theorem startStore_override (s : State) (a : Address) : (startStore s a).override = s.override := by simp only [startStore]
@[simp] theorem startStore_alloc (s : State) (a : Address) : (startStore s a).alloc = s.alloc := by simp only [startStore]
@[simp] theorem startStore_wheel (s : State) (a : Address) : (startStore s a).wheel = s.wheel := by simp only [startStore]
@[simp] theorem startStore_vref (s : State) (a : Address) : (startStore s a).vref = s.vref := by simp only [startStore]
@[simp] theorem startStore_slip (s : State) (a : Address) : (startStore s a).slip = s.slip := by simp only [startStore]
@[simp] theorem startStore_sampling (s : State) (a : Address) : (startStore s a).sampling = s.sampling := by simp only [startStore]
@[simp] theorem startStore_valve (s : State) (a : Address) : (startStore s a).valve = s.valve := by simp only [startStore]
@[simp] theorem startStore_park (s : State) (a : Address) : (startStore s a).park = s.park := by simp only [startStore]
@[simp] theorem startStore_exercise (s : State) (a : Address) : (startStore s a).exercise = s.exercise := by simp only [startStore]
@[simp] theorem startStore_circuit (s : State) (a : Address) : (startStore s a).circuit = s.circuit := by simp only [startStore]
@[simp] theorem startStore_pedalRun (s : State) (a : Address) : (startStore s a).pedalRun = s.pedalRun := by simp only [startStore]
@[simp] theorem startStore_trip (s : State) (a : Address) : (startStore s a).trip = s.trip := by simp only [startStore]
@[simp] theorem startStore_coord (s : State) (a : Address) : (startStore s a).coord = s.coord := by simp only [startStore]
@[simp] theorem startStore_excerpt (s : State) (a : Address) : (startStore s a).excerpt = s.excerpt := by simp only [startStore]
@[simp] theorem startStore_status (s : State) (a : Address) : (startStore s a).status = s.status := by simp only [startStore]

/-! `rejoinBus` changes no field but port. -/

@[simp] theorem rejoinBus_pending (s : State) : (rejoinBus s).pending = s.pending := by simp only [rejoinBus]
@[simp] theorem rejoinBus_draws (s : State) : (rejoinBus s).draws = s.draws := by simp only [rejoinBus]
@[simp] theorem rejoinBus_clock (s : State) : (rejoinBus s).clock = s.clock := by simp only [rejoinBus]
@[simp] theorem rejoinBus_lines (s : State) : (rejoinBus s).lines = s.lines := by simp only [rejoinBus]
@[simp] theorem rejoinBus_door (s : State) : (rejoinBus s).door = s.door := by simp only [rejoinBus]
@[simp] theorem rejoinBus_parkSwitch (s : State) : (rejoinBus s).parkSwitch = s.parkSwitch := by simp only [rejoinBus]
@[simp] theorem rejoinBus_doorOpenMoving (s : State) : (rejoinBus s).doorOpenMoving = s.doorOpenMoving := by simp only [rejoinBus]
@[simp] theorem rejoinBus_pedal (s : State) : (rejoinBus s).pedal = s.pedal := by simp only [rejoinBus]
@[simp] theorem rejoinBus_roster (s : State) : (rejoinBus s).roster = s.roster := by simp only [rejoinBus]
@[simp] theorem rejoinBus_table (s : State) : (rejoinBus s).table = s.table := by simp only [rejoinBus]
@[simp] theorem rejoinBus_override (s : State) : (rejoinBus s).override = s.override := by simp only [rejoinBus]
@[simp] theorem rejoinBus_alloc (s : State) : (rejoinBus s).alloc = s.alloc := by simp only [rejoinBus]
@[simp] theorem rejoinBus_wheel (s : State) : (rejoinBus s).wheel = s.wheel := by simp only [rejoinBus]
@[simp] theorem rejoinBus_vref (s : State) : (rejoinBus s).vref = s.vref := by simp only [rejoinBus]
@[simp] theorem rejoinBus_slip (s : State) : (rejoinBus s).slip = s.slip := by simp only [rejoinBus]
@[simp] theorem rejoinBus_sampling (s : State) : (rejoinBus s).sampling = s.sampling := by simp only [rejoinBus]
@[simp] theorem rejoinBus_valve (s : State) : (rejoinBus s).valve = s.valve := by simp only [rejoinBus]
@[simp] theorem rejoinBus_park (s : State) : (rejoinBus s).park = s.park := by simp only [rejoinBus]
@[simp] theorem rejoinBus_exercise (s : State) : (rejoinBus s).exercise = s.exercise := by simp only [rejoinBus]
@[simp] theorem rejoinBus_circuit (s : State) : (rejoinBus s).circuit = s.circuit := by simp only [rejoinBus]
@[simp] theorem rejoinBus_pedalRun (s : State) : (rejoinBus s).pedalRun = s.pedalRun := by simp only [rejoinBus]
@[simp] theorem rejoinBus_trip (s : State) : (rejoinBus s).trip = s.trip := by simp only [rejoinBus]
@[simp] theorem rejoinBus_coord (s : State) : (rejoinBus s).coord = s.coord := by simp only [rejoinBus]
@[simp] theorem rejoinBus_excerpt (s : State) : (rejoinBus s).excerpt = s.excerpt := by simp only [rejoinBus]
@[simp] theorem rejoinBus_status (s : State) : (rejoinBus s).status = s.status := by simp only [rejoinBus]
@[simp] theorem rejoinBus_settings (s : State) : (rejoinBus s).settings = s.settings := by simp only [rejoinBus]

/-! `goOffline` changes no field but port, excerpt. -/

@[simp] theorem goOffline_pending (s : State) : (goOffline s).pending = s.pending := by simp only [goOffline]
@[simp] theorem goOffline_draws (s : State) : (goOffline s).draws = s.draws := by simp only [goOffline]
@[simp] theorem goOffline_clock (s : State) : (goOffline s).clock = s.clock := by simp only [goOffline]
@[simp] theorem goOffline_lines (s : State) : (goOffline s).lines = s.lines := by simp only [goOffline]
@[simp] theorem goOffline_door (s : State) : (goOffline s).door = s.door := by simp only [goOffline]
@[simp] theorem goOffline_parkSwitch (s : State) : (goOffline s).parkSwitch = s.parkSwitch := by simp only [goOffline]
@[simp] theorem goOffline_doorOpenMoving (s : State) : (goOffline s).doorOpenMoving = s.doorOpenMoving := by simp only [goOffline]
@[simp] theorem goOffline_pedal (s : State) : (goOffline s).pedal = s.pedal := by simp only [goOffline]
@[simp] theorem goOffline_roster (s : State) : (goOffline s).roster = s.roster := by simp only [goOffline]
@[simp] theorem goOffline_table (s : State) : (goOffline s).table = s.table := by simp only [goOffline]
@[simp] theorem goOffline_override (s : State) : (goOffline s).override = s.override := by simp only [goOffline]
@[simp] theorem goOffline_alloc (s : State) : (goOffline s).alloc = s.alloc := by simp only [goOffline]
@[simp] theorem goOffline_wheel (s : State) : (goOffline s).wheel = s.wheel := by simp only [goOffline]
@[simp] theorem goOffline_vref (s : State) : (goOffline s).vref = s.vref := by simp only [goOffline]
@[simp] theorem goOffline_slip (s : State) : (goOffline s).slip = s.slip := by simp only [goOffline]
@[simp] theorem goOffline_sampling (s : State) : (goOffline s).sampling = s.sampling := by simp only [goOffline]
@[simp] theorem goOffline_valve (s : State) : (goOffline s).valve = s.valve := by simp only [goOffline]
@[simp] theorem goOffline_park (s : State) : (goOffline s).park = s.park := by simp only [goOffline]
@[simp] theorem goOffline_exercise (s : State) : (goOffline s).exercise = s.exercise := by simp only [goOffline]
@[simp] theorem goOffline_circuit (s : State) : (goOffline s).circuit = s.circuit := by simp only [goOffline]
@[simp] theorem goOffline_pedalRun (s : State) : (goOffline s).pedalRun = s.pedalRun := by simp only [goOffline]
@[simp] theorem goOffline_trip (s : State) : (goOffline s).trip = s.trip := by simp only [goOffline]
@[simp] theorem goOffline_coord (s : State) : (goOffline s).coord = s.coord := by simp only [goOffline]
@[simp] theorem goOffline_status (s : State) : (goOffline s).status = s.status := by simp only [goOffline]
@[simp] theorem goOffline_settings (s : State) : (goOffline s).settings = s.settings := by simp only [goOffline]

/-! `wakeBlocks` changes no field but door, parkSwitch, pedal, port, override, sampling, exercise, circuit, pedalRun, trip, coord, excerpt, status. -/

@[simp] theorem wakeBlocks_pending (s : State) : (wakeBlocks s).pending = s.pending := by simp only [wakeBlocks]
@[simp] theorem wakeBlocks_draws (s : State) : (wakeBlocks s).draws = s.draws := by simp only [wakeBlocks]
@[simp] theorem wakeBlocks_clock (s : State) : (wakeBlocks s).clock = s.clock := by simp only [wakeBlocks]
@[simp] theorem wakeBlocks_lines (s : State) : (wakeBlocks s).lines = s.lines := by simp only [wakeBlocks]
@[simp] theorem wakeBlocks_doorOpenMoving (s : State) : (wakeBlocks s).doorOpenMoving = s.doorOpenMoving := by simp only [wakeBlocks]
@[simp] theorem wakeBlocks_roster (s : State) : (wakeBlocks s).roster = s.roster := by simp only [wakeBlocks]
@[simp] theorem wakeBlocks_table (s : State) : (wakeBlocks s).table = s.table := by simp only [wakeBlocks]
@[simp] theorem wakeBlocks_alloc (s : State) : (wakeBlocks s).alloc = s.alloc := by simp only [wakeBlocks]
@[simp] theorem wakeBlocks_wheel (s : State) : (wakeBlocks s).wheel = s.wheel := by simp only [wakeBlocks]
@[simp] theorem wakeBlocks_vref (s : State) : (wakeBlocks s).vref = s.vref := by simp only [wakeBlocks]
@[simp] theorem wakeBlocks_slip (s : State) : (wakeBlocks s).slip = s.slip := by simp only [wakeBlocks]
@[simp] theorem wakeBlocks_valve (s : State) : (wakeBlocks s).valve = s.valve := by simp only [wakeBlocks]
@[simp] theorem wakeBlocks_park (s : State) : (wakeBlocks s).park = s.park := by simp only [wakeBlocks]
@[simp] theorem wakeBlocks_settings (s : State) : (wakeBlocks s).settings = s.settings := by simp only [wakeBlocks]

end Sys2Proof.Machine
end

