-- ==== Sys2Proof/Laws/Frames.lean ====
section
/-!
SUPPORT. The fields that each operation with cases leaves alone: which blocks an event can reach.
-/

namespace Sys2Proof.Machine

/-! `endExercise` changes no field but port, exercise. -/

@[simp] theorem endExercise_pending (s : State) (w : EndReason) : (endExercise s w).pending = s.pending := by
  simp only [endExercise]; (repeat' split) <;> rfl
@[simp] theorem endExercise_draws (s : State) (w : EndReason) : (endExercise s w).draws = s.draws := by
  simp only [endExercise]; (repeat' split) <;> rfl
@[simp] theorem endExercise_clock (s : State) (w : EndReason) : (endExercise s w).clock = s.clock := by
  simp only [endExercise]; (repeat' split) <;> rfl
@[simp] theorem endExercise_lines (s : State) (w : EndReason) : (endExercise s w).lines = s.lines := by
  simp only [endExercise]; (repeat' split) <;> rfl
@[simp] theorem endExercise_door (s : State) (w : EndReason) : (endExercise s w).door = s.door := by
  simp only [endExercise]; (repeat' split) <;> rfl
@[simp] theorem endExercise_parkSwitch (s : State) (w : EndReason) : (endExercise s w).parkSwitch = s.parkSwitch := by
  simp only [endExercise]; (repeat' split) <;> rfl
@[simp] theorem endExercise_doorOpenMoving (s : State) (w : EndReason) : (endExercise s w).doorOpenMoving = s.doorOpenMoving := by
  simp only [endExercise]; (repeat' split) <;> rfl
@[simp] theorem endExercise_pedal (s : State) (w : EndReason) : (endExercise s w).pedal = s.pedal := by
  simp only [endExercise]; (repeat' split) <;> rfl
@[simp] theorem endExercise_roster (s : State) (w : EndReason) : (endExercise s w).roster = s.roster := by
  simp only [endExercise]; (repeat' split) <;> rfl
@[simp] theorem endExercise_table (s : State) (w : EndReason) : (endExercise s w).table = s.table := by
  simp only [endExercise]; (repeat' split) <;> rfl
@[simp] theorem endExercise_override (s : State) (w : EndReason) : (endExercise s w).override = s.override := by
  simp only [endExercise]; (repeat' split) <;> rfl
@[simp] theorem endExercise_alloc (s : State) (w : EndReason) : (endExercise s w).alloc = s.alloc := by
  simp only [endExercise]; (repeat' split) <;> rfl
@[simp] theorem endExercise_wheel (s : State) (w : EndReason) : (endExercise s w).wheel = s.wheel := by
  simp only [endExercise]; (repeat' split) <;> rfl
@[simp] theorem endExercise_vref (s : State) (w : EndReason) : (endExercise s w).vref = s.vref := by
  simp only [endExercise]; (repeat' split) <;> rfl
@[simp] theorem endExercise_slip (s : State) (w : EndReason) : (endExercise s w).slip = s.slip := by
  simp only [endExercise]; (repeat' split) <;> rfl
@[simp] theorem endExercise_sampling (s : State) (w : EndReason) : (endExercise s w).sampling = s.sampling := by
  simp only [endExercise]; (repeat' split) <;> rfl
@[simp] theorem endExercise_valve (s : State) (w : EndReason) : (endExercise s w).valve = s.valve := by
  simp only [endExercise]; (repeat' split) <;> rfl
@[simp] theorem endExercise_park (s : State) (w : EndReason) : (endExercise s w).park = s.park := by
  simp only [endExercise]; (repeat' split) <;> rfl
@[simp] theorem endExercise_circuit (s : State) (w : EndReason) : (endExercise s w).circuit = s.circuit := by
  simp only [endExercise]; (repeat' split) <;> rfl
@[simp] theorem endExercise_pedalRun (s : State) (w : EndReason) : (endExercise s w).pedalRun = s.pedalRun := by
  simp only [endExercise]; (repeat' split) <;> rfl
@[simp] theorem endExercise_trip (s : State) (w : EndReason) : (endExercise s w).trip = s.trip := by
  simp only [endExercise]; (repeat' split) <;> rfl
@[simp] theorem endExercise_coord (s : State) (w : EndReason) : (endExercise s w).coord = s.coord := by
  simp only [endExercise]; (repeat' split) <;> rfl
@[simp] theorem endExercise_excerpt (s : State) (w : EndReason) : (endExercise s w).excerpt = s.excerpt := by
  simp only [endExercise]; (repeat' split) <;> rfl
@[simp] theorem endExercise_status (s : State) (w : EndReason) : (endExercise s w).status = s.status := by
  simp only [endExercise]; (repeat' split) <;> rfl
@[simp] theorem endExercise_settings (s : State) (w : EndReason) : (endExercise s w).settings = s.settings := by
  simp only [endExercise]; (repeat' split) <;> rfl

/-! `evaluateRelease` changes no field but park, coord. -/

@[simp] theorem evaluateRelease_pending (s : State) : (evaluateRelease s).pending = s.pending := by
  unfold evaluateRelease; (repeat' split) <;> rfl
@[simp] theorem evaluateRelease_draws (s : State) : (evaluateRelease s).draws = s.draws := by
  unfold evaluateRelease; (repeat' split) <;> rfl
@[simp] theorem evaluateRelease_clock (s : State) : (evaluateRelease s).clock = s.clock := by
  unfold evaluateRelease; (repeat' split) <;> rfl
@[simp] theorem evaluateRelease_lines (s : State) : (evaluateRelease s).lines = s.lines := by
  unfold evaluateRelease; (repeat' split) <;> rfl
@[simp] theorem evaluateRelease_door (s : State) : (evaluateRelease s).door = s.door := by
  unfold evaluateRelease; (repeat' split) <;> rfl
@[simp] theorem evaluateRelease_parkSwitch (s : State) : (evaluateRelease s).parkSwitch = s.parkSwitch := by
  unfold evaluateRelease; (repeat' split) <;> rfl
@[simp] theorem evaluateRelease_doorOpenMoving (s : State) : (evaluateRelease s).doorOpenMoving = s.doorOpenMoving := by
  unfold evaluateRelease; (repeat' split) <;> rfl
@[simp] theorem evaluateRelease_pedal (s : State) : (evaluateRelease s).pedal = s.pedal := by
  unfold evaluateRelease; (repeat' split) <;> rfl
@[simp] theorem evaluateRelease_roster (s : State) : (evaluateRelease s).roster = s.roster := by
  unfold evaluateRelease; (repeat' split) <;> rfl
@[simp] theorem evaluateRelease_port (s : State) : (evaluateRelease s).port = s.port := by
  unfold evaluateRelease; (repeat' split) <;> rfl
@[simp] theorem evaluateRelease_table (s : State) : (evaluateRelease s).table = s.table := by
  unfold evaluateRelease; (repeat' split) <;> rfl
@[simp] theorem evaluateRelease_override (s : State) : (evaluateRelease s).override = s.override := by
  unfold evaluateRelease; (repeat' split) <;> rfl
@[simp] theorem evaluateRelease_alloc (s : State) : (evaluateRelease s).alloc = s.alloc := by
  unfold evaluateRelease; (repeat' split) <;> rfl
@[simp] theorem evaluateRelease_wheel (s : State) : (evaluateRelease s).wheel = s.wheel := by
  unfold evaluateRelease; (repeat' split) <;> rfl
@[simp] theorem evaluateRelease_vref (s : State) : (evaluateRelease s).vref = s.vref := by
  unfold evaluateRelease; (repeat' split) <;> rfl
@[simp] theorem evaluateRelease_slip (s : State) : (evaluateRelease s).slip = s.slip := by
  unfold evaluateRelease; (repeat' split) <;> rfl
@[simp] theorem evaluateRelease_sampling (s : State) : (evaluateRelease s).sampling = s.sampling := by
  unfold evaluateRelease; (repeat' split) <;> rfl
@[simp] theorem evaluateRelease_valve (s : State) : (evaluateRelease s).valve = s.valve := by
  unfold evaluateRelease; (repeat' split) <;> rfl
@[simp] theorem evaluateRelease_exercise (s : State) : (evaluateRelease s).exercise = s.exercise := by
  unfold evaluateRelease; (repeat' split) <;> rfl
@[simp] theorem evaluateRelease_circuit (s : State) : (evaluateRelease s).circuit = s.circuit := by
  unfold evaluateRelease; (repeat' split) <;> rfl
@[simp] theorem evaluateRelease_pedalRun (s : State) : (evaluateRelease s).pedalRun = s.pedalRun := by
  unfold evaluateRelease; (repeat' split) <;> rfl
@[simp] theorem evaluateRelease_trip (s : State) : (evaluateRelease s).trip = s.trip := by
  unfold evaluateRelease; (repeat' split) <;> rfl
@[simp] theorem evaluateRelease_excerpt (s : State) : (evaluateRelease s).excerpt = s.excerpt := by
  unfold evaluateRelease; (repeat' split) <;> rfl
@[simp] theorem evaluateRelease_status (s : State) : (evaluateRelease s).status = s.status := by
  unfold evaluateRelease; (repeat' split) <;> rfl
@[simp] theorem evaluateRelease_settings (s : State) : (evaluateRelease s).settings = s.settings := by
  unfold evaluateRelease; (repeat' split) <;> rfl

/-! `reevaluateRelease` changes no field but park, coord. -/

@[simp] theorem reevaluateRelease_pending (s : State) : (reevaluateRelease s).pending = s.pending := by
  unfold reevaluateRelease; split <;> simp
@[simp] theorem reevaluateRelease_draws (s : State) : (reevaluateRelease s).draws = s.draws := by
  unfold reevaluateRelease; split <;> simp
@[simp] theorem reevaluateRelease_clock (s : State) : (reevaluateRelease s).clock = s.clock := by
  unfold reevaluateRelease; split <;> simp
@[simp] theorem reevaluateRelease_lines (s : State) : (reevaluateRelease s).lines = s.lines := by
  unfold reevaluateRelease; split <;> simp
@[simp] theorem reevaluateRelease_door (s : State) : (reevaluateRelease s).door = s.door := by
  unfold reevaluateRelease; split <;> simp
@[simp] theorem reevaluateRelease_parkSwitch (s : State) : (reevaluateRelease s).parkSwitch = s.parkSwitch := by
  unfold reevaluateRelease; split <;> simp
@[simp] theorem reevaluateRelease_doorOpenMoving (s : State) : (reevaluateRelease s).doorOpenMoving = s.doorOpenMoving := by
  unfold reevaluateRelease; split <;> simp
@[simp] theorem reevaluateRelease_pedal (s : State) : (reevaluateRelease s).pedal = s.pedal := by
  unfold reevaluateRelease; split <;> simp
@[simp] theorem reevaluateRelease_roster (s : State) : (reevaluateRelease s).roster = s.roster := by
  unfold reevaluateRelease; split <;> simp
@[simp] theorem reevaluateRelease_port (s : State) : (reevaluateRelease s).port = s.port := by
  unfold reevaluateRelease; split <;> simp
@[simp] theorem reevaluateRelease_table (s : State) : (reevaluateRelease s).table = s.table := by
  unfold reevaluateRelease; split <;> simp
@[simp] theorem reevaluateRelease_override (s : State) : (reevaluateRelease s).override = s.override := by
  unfold reevaluateRelease; split <;> simp
@[simp] theorem reevaluateRelease_alloc (s : State) : (reevaluateRelease s).alloc = s.alloc := by
  unfold reevaluateRelease; split <;> simp
@[simp] theorem reevaluateRelease_wheel (s : State) : (reevaluateRelease s).wheel = s.wheel := by
  unfold reevaluateRelease; split <;> simp
@[simp] theorem reevaluateRelease_vref (s : State) : (reevaluateRelease s).vref = s.vref := by
  unfold reevaluateRelease; split <;> simp
@[simp] theorem reevaluateRelease_slip (s : State) : (reevaluateRelease s).slip = s.slip := by
  unfold reevaluateRelease; split <;> simp
@[simp] theorem reevaluateRelease_sampling (s : State) : (reevaluateRelease s).sampling = s.sampling := by
  unfold reevaluateRelease; split <;> simp
@[simp] theorem reevaluateRelease_valve (s : State) : (reevaluateRelease s).valve = s.valve := by
  unfold reevaluateRelease; split <;> simp
@[simp] theorem reevaluateRelease_exercise (s : State) : (reevaluateRelease s).exercise = s.exercise := by
  unfold reevaluateRelease; split <;> simp
@[simp] theorem reevaluateRelease_circuit (s : State) : (reevaluateRelease s).circuit = s.circuit := by
  unfold reevaluateRelease; split <;> simp
@[simp] theorem reevaluateRelease_pedalRun (s : State) : (reevaluateRelease s).pedalRun = s.pedalRun := by
  unfold reevaluateRelease; split <;> simp
@[simp] theorem reevaluateRelease_trip (s : State) : (reevaluateRelease s).trip = s.trip := by
  unfold reevaluateRelease; split <;> simp
@[simp] theorem reevaluateRelease_excerpt (s : State) : (reevaluateRelease s).excerpt = s.excerpt := by
  unfold reevaluateRelease; split <;> simp
@[simp] theorem reevaluateRelease_status (s : State) : (reevaluateRelease s).status = s.status := by
  unfold reevaluateRelease; split <;> simp
@[simp] theorem reevaluateRelease_settings (s : State) : (reevaluateRelease s).settings = s.settings := by
  unfold reevaluateRelease; split <;> simp

/-! `parkCeases` changes no field but park, coord. -/

@[simp] theorem parkCeases_pending (s : State) : (parkCeases s).pending = s.pending := by
  unfold parkCeases; split <;> simp
@[simp] theorem parkCeases_draws (s : State) : (parkCeases s).draws = s.draws := by
  unfold parkCeases; split <;> simp
@[simp] theorem parkCeases_clock (s : State) : (parkCeases s).clock = s.clock := by
  unfold parkCeases; split <;> simp
@[simp] theorem parkCeases_lines (s : State) : (parkCeases s).lines = s.lines := by
  unfold parkCeases; split <;> simp
@[simp] theorem parkCeases_door (s : State) : (parkCeases s).door = s.door := by
  unfold parkCeases; split <;> simp
@[simp] theorem parkCeases_parkSwitch (s : State) : (parkCeases s).parkSwitch = s.parkSwitch := by
  unfold parkCeases; split <;> simp
@[simp] theorem parkCeases_doorOpenMoving (s : State) : (parkCeases s).doorOpenMoving = s.doorOpenMoving := by
  unfold parkCeases; split <;> simp
@[simp] theorem parkCeases_pedal (s : State) : (parkCeases s).pedal = s.pedal := by
  unfold parkCeases; split <;> simp
@[simp] theorem parkCeases_roster (s : State) : (parkCeases s).roster = s.roster := by
  unfold parkCeases; split <;> simp
@[simp] theorem parkCeases_port (s : State) : (parkCeases s).port = s.port := by
  unfold parkCeases; split <;> simp
@[simp] theorem parkCeases_table (s : State) : (parkCeases s).table = s.table := by
  unfold parkCeases; split <;> simp
@[simp] theorem parkCeases_override (s : State) : (parkCeases s).override = s.override := by
  unfold parkCeases; split <;> simp
@[simp] theorem parkCeases_alloc (s : State) : (parkCeases s).alloc = s.alloc := by
  unfold parkCeases; split <;> simp
@[simp] theorem parkCeases_wheel (s : State) : (parkCeases s).wheel = s.wheel := by
  unfold parkCeases; split <;> simp
@[simp] theorem parkCeases_vref (s : State) : (parkCeases s).vref = s.vref := by
  unfold parkCeases; split <;> simp
@[simp] theorem parkCeases_slip (s : State) : (parkCeases s).slip = s.slip := by
  unfold parkCeases; split <;> simp
@[simp] theorem parkCeases_sampling (s : State) : (parkCeases s).sampling = s.sampling := by
  unfold parkCeases; split <;> simp
@[simp] theorem parkCeases_valve (s : State) : (parkCeases s).valve = s.valve := by
  unfold parkCeases; split <;> simp
@[simp] theorem parkCeases_exercise (s : State) : (parkCeases s).exercise = s.exercise := by
  unfold parkCeases; split <;> simp
@[simp] theorem parkCeases_circuit (s : State) : (parkCeases s).circuit = s.circuit := by
  unfold parkCeases; split <;> simp
@[simp] theorem parkCeases_pedalRun (s : State) : (parkCeases s).pedalRun = s.pedalRun := by
  unfold parkCeases; split <;> simp
@[simp] theorem parkCeases_trip (s : State) : (parkCeases s).trip = s.trip := by
  unfold parkCeases; split <;> simp
@[simp] theorem parkCeases_excerpt (s : State) : (parkCeases s).excerpt = s.excerpt := by
  unfold parkCeases; split <;> simp
@[simp] theorem parkCeases_status (s : State) : (parkCeases s).status = s.status := by
  unfold parkCeases; split <;> simp
@[simp] theorem parkCeases_settings (s : State) : (parkCeases s).settings = s.settings := by
  unfold parkCeases; split <;> simp

/-! `putTable` changes no field but table, park, coord. -/

@[simp] theorem putTable_pending (s : State) (t : Table) : (putTable s t).pending = s.pending := by
  unfold putTable; (repeat' split) <;> simp
@[simp] theorem putTable_draws (s : State) (t : Table) : (putTable s t).draws = s.draws := by
  unfold putTable; (repeat' split) <;> simp
@[simp] theorem putTable_clock (s : State) (t : Table) : (putTable s t).clock = s.clock := by
  unfold putTable; (repeat' split) <;> simp
@[simp] theorem putTable_lines (s : State) (t : Table) : (putTable s t).lines = s.lines := by
  unfold putTable; (repeat' split) <;> simp
@[simp] theorem putTable_door (s : State) (t : Table) : (putTable s t).door = s.door := by
  unfold putTable; (repeat' split) <;> simp
@[simp] theorem putTable_parkSwitch (s : State) (t : Table) : (putTable s t).parkSwitch = s.parkSwitch := by
  unfold putTable; (repeat' split) <;> simp
@[simp] theorem putTable_doorOpenMoving (s : State) (t : Table) : (putTable s t).doorOpenMoving = s.doorOpenMoving := by
  unfold putTable; (repeat' split) <;> simp
@[simp] theorem putTable_pedal (s : State) (t : Table) : (putTable s t).pedal = s.pedal := by
  unfold putTable; (repeat' split) <;> simp
@[simp] theorem putTable_roster (s : State) (t : Table) : (putTable s t).roster = s.roster := by
  unfold putTable; (repeat' split) <;> simp
@[simp] theorem putTable_port (s : State) (t : Table) : (putTable s t).port = s.port := by
  unfold putTable; (repeat' split) <;> simp
@[simp] theorem putTable_override (s : State) (t : Table) : (putTable s t).override = s.override := by
  unfold putTable; (repeat' split) <;> simp
@[simp] theorem putTable_alloc (s : State) (t : Table) : (putTable s t).alloc = s.alloc := by
  unfold putTable; (repeat' split) <;> simp
@[simp] theorem putTable_wheel (s : State) (t : Table) : (putTable s t).wheel = s.wheel := by
  unfold putTable; (repeat' split) <;> simp
@[simp] theorem putTable_vref (s : State) (t : Table) : (putTable s t).vref = s.vref := by
  unfold putTable; (repeat' split) <;> simp
@[simp] theorem putTable_slip (s : State) (t : Table) : (putTable s t).slip = s.slip := by
  unfold putTable; (repeat' split) <;> simp
@[simp] theorem putTable_sampling (s : State) (t : Table) : (putTable s t).sampling = s.sampling := by
  unfold putTable; (repeat' split) <;> simp
@[simp] theorem putTable_valve (s : State) (t : Table) : (putTable s t).valve = s.valve := by
  unfold putTable; (repeat' split) <;> simp
@[simp] theorem putTable_exercise (s : State) (t : Table) : (putTable s t).exercise = s.exercise := by
  unfold putTable; (repeat' split) <;> simp
@[simp] theorem putTable_circuit (s : State) (t : Table) : (putTable s t).circuit = s.circuit := by
  unfold putTable; (repeat' split) <;> simp
@[simp] theorem putTable_pedalRun (s : State) (t : Table) : (putTable s t).pedalRun = s.pedalRun := by
  unfold putTable; (repeat' split) <;> simp
@[simp] theorem putTable_trip (s : State) (t : Table) : (putTable s t).trip = s.trip := by
  unfold putTable; (repeat' split) <;> simp
@[simp] theorem putTable_excerpt (s : State) (t : Table) : (putTable s t).excerpt = s.excerpt := by
  unfold putTable; (repeat' split) <;> simp
@[simp] theorem putTable_status (s : State) (t : Table) : (putTable s t).status = s.status := by
  unfold putTable; (repeat' split) <;> simp
@[simp] theorem putTable_settings (s : State) (t : Table) : (putTable s t).settings = s.settings := by
  unfold putTable; (repeat' split) <;> simp

/-! `setStandstill` changes no field but port, exercise, coord. -/

@[simp] theorem setStandstill_pending (s : State) (st : Standstill) : (setStandstill s st).pending = s.pending := by
  unfold setStandstill; split <;> simp
@[simp] theorem setStandstill_draws (s : State) (st : Standstill) : (setStandstill s st).draws = s.draws := by
  unfold setStandstill; split <;> simp
@[simp] theorem setStandstill_clock (s : State) (st : Standstill) : (setStandstill s st).clock = s.clock := by
  unfold setStandstill; split <;> simp
@[simp] theorem setStandstill_lines (s : State) (st : Standstill) : (setStandstill s st).lines = s.lines := by
  unfold setStandstill; split <;> simp
@[simp] theorem setStandstill_door (s : State) (st : Standstill) : (setStandstill s st).door = s.door := by
  unfold setStandstill; split <;> simp
@[simp] theorem setStandstill_parkSwitch (s : State) (st : Standstill) : (setStandstill s st).parkSwitch = s.parkSwitch := by
  unfold setStandstill; split <;> simp
@[simp] theorem setStandstill_doorOpenMoving (s : State) (st : Standstill) : (setStandstill s st).doorOpenMoving = s.doorOpenMoving := by
  unfold setStandstill; split <;> simp
@[simp] theorem setStandstill_pedal (s : State) (st : Standstill) : (setStandstill s st).pedal = s.pedal := by
  unfold setStandstill; split <;> simp
@[simp] theorem setStandstill_roster (s : State) (st : Standstill) : (setStandstill s st).roster = s.roster := by
  unfold setStandstill; split <;> simp
@[simp] theorem setStandstill_table (s : State) (st : Standstill) : (setStandstill s st).table = s.table := by
  unfold setStandstill; split <;> simp
@[simp] theorem setStandstill_override (s : State) (st : Standstill) : (setStandstill s st).override = s.override := by
  unfold setStandstill; split <;> simp
@[simp] theorem setStandstill_alloc (s : State) (st : Standstill) : (setStandstill s st).alloc = s.alloc := by
  unfold setStandstill; split <;> simp
@[simp] theorem setStandstill_wheel (s : State) (st : Standstill) : (setStandstill s st).wheel = s.wheel := by
  unfold setStandstill; split <;> simp
@[simp] theorem setStandstill_vref (s : State) (st : Standstill) : (setStandstill s st).vref = s.vref := by
  unfold setStandstill; split <;> simp
@[simp] theorem setStandstill_slip (s : State) (st : Standstill) : (setStandstill s st).slip = s.slip := by
  unfold setStandstill; split <;> simp
@[simp] theorem setStandstill_sampling (s : State) (st : Standstill) : (setStandstill s st).sampling = s.sampling := by
  unfold setStandstill; split <;> simp
@[simp] theorem setStandstill_valve (s : State) (st : Standstill) : (setStandstill s st).valve = s.valve := by
  unfold setStandstill; split <;> simp
@[simp] theorem setStandstill_park (s : State) (st : Standstill) : (setStandstill s st).park = s.park := by
  unfold setStandstill; split <;> simp
@[simp] theorem setStandstill_circuit (s : State) (st : Standstill) : (setStandstill s st).circuit = s.circuit := by
  unfold setStandstill; split <;> simp
@[simp] theorem setStandstill_pedalRun (s : State) (st : Standstill) : (setStandstill s st).pedalRun = s.pedalRun := by
  unfold setStandstill; split <;> simp
@[simp] theorem setStandstill_trip (s : State) (st : Standstill) : (setStandstill s st).trip = s.trip := by
  unfold setStandstill; split <;> simp
@[simp] theorem setStandstill_excerpt (s : State) (st : Standstill) : (setStandstill s st).excerpt = s.excerpt := by
  unfold setStandstill; split <;> simp
@[simp] theorem setStandstill_status (s : State) (st : Standstill) : (setStandstill s st).status = s.status := by
  unfold setStandstill; split <;> simp
@[simp] theorem setStandstill_settings (s : State) (st : Standstill) : (setStandstill s st).settings = s.settings := by
  unfold setStandstill; split <;> simp

/-! `postSlot4` changes no field but table, park, coord. -/

@[simp] theorem postSlot4_pending (s : State) : (postSlot4 s).pending = s.pending := by
  simp [postSlot4]
@[simp] theorem postSlot4_draws (s : State) : (postSlot4 s).draws = s.draws := by
  simp [postSlot4]
@[simp] theorem postSlot4_clock (s : State) : (postSlot4 s).clock = s.clock := by
  simp [postSlot4]
@[simp] theorem postSlot4_lines (s : State) : (postSlot4 s).lines = s.lines := by
  simp [postSlot4]
@[simp] theorem postSlot4_door (s : State) : (postSlot4 s).door = s.door := by
  simp [postSlot4]
@[simp] theorem postSlot4_parkSwitch (s : State) : (postSlot4 s).parkSwitch = s.parkSwitch := by
  simp [postSlot4]
@[simp] theorem postSlot4_doorOpenMoving (s : State) : (postSlot4 s).doorOpenMoving = s.doorOpenMoving := by
  simp [postSlot4]
@[simp] theorem postSlot4_pedal (s : State) : (postSlot4 s).pedal = s.pedal := by
  simp [postSlot4]
@[simp] theorem postSlot4_roster (s : State) : (postSlot4 s).roster = s.roster := by
  simp [postSlot4]
@[simp] theorem postSlot4_port (s : State) : (postSlot4 s).port = s.port := by
  simp [postSlot4]
@[simp] theorem postSlot4_override (s : State) : (postSlot4 s).override = s.override := by
  simp [postSlot4]
@[simp] theorem postSlot4_alloc (s : State) : (postSlot4 s).alloc = s.alloc := by
  simp [postSlot4]
@[simp] theorem postSlot4_wheel (s : State) : (postSlot4 s).wheel = s.wheel := by
  simp [postSlot4]
@[simp] theorem postSlot4_vref (s : State) : (postSlot4 s).vref = s.vref := by
  simp [postSlot4]
@[simp] theorem postSlot4_slip (s : State) : (postSlot4 s).slip = s.slip := by
  simp [postSlot4]
@[simp] theorem postSlot4_sampling (s : State) : (postSlot4 s).sampling = s.sampling := by
  simp [postSlot4]
@[simp] theorem postSlot4_valve (s : State) : (postSlot4 s).valve = s.valve := by
  simp [postSlot4]
@[simp] theorem postSlot4_exercise (s : State) : (postSlot4 s).exercise = s.exercise := by
  simp [postSlot4]
@[simp] theorem postSlot4_circuit (s : State) : (postSlot4 s).circuit = s.circuit := by
  simp [postSlot4]
@[simp] theorem postSlot4_pedalRun (s : State) : (postSlot4 s).pedalRun = s.pedalRun := by
  simp [postSlot4]
@[simp] theorem postSlot4_trip (s : State) : (postSlot4 s).trip = s.trip := by
  simp [postSlot4]
@[simp] theorem postSlot4_excerpt (s : State) : (postSlot4 s).excerpt = s.excerpt := by
  simp [postSlot4]
@[simp] theorem postSlot4_status (s : State) : (postSlot4 s).status = s.status := by
  simp [postSlot4]
@[simp] theorem postSlot4_settings (s : State) : (postSlot4 s).settings = s.settings := by
  simp [postSlot4]

/-! `handover` changes no field but table. -/

@[simp] theorem handover_pending (s : State) : (handover s).pending = s.pending := by
  unfold handover; split <;> simp
@[simp] theorem handover_draws (s : State) : (handover s).draws = s.draws := by
  unfold handover; split <;> simp
@[simp] theorem handover_clock (s : State) : (handover s).clock = s.clock := by
  unfold handover; split <;> simp
@[simp] theorem handover_lines (s : State) : (handover s).lines = s.lines := by
  unfold handover; split <;> simp
@[simp] theorem handover_door (s : State) : (handover s).door = s.door := by
  unfold handover; split <;> simp
@[simp] theorem handover_parkSwitch (s : State) : (handover s).parkSwitch = s.parkSwitch := by
  unfold handover; split <;> simp
@[simp] theorem handover_doorOpenMoving (s : State) : (handover s).doorOpenMoving = s.doorOpenMoving := by
  unfold handover; split <;> simp
@[simp] theorem handover_pedal (s : State) : (handover s).pedal = s.pedal := by
  unfold handover; split <;> simp
@[simp] theorem handover_roster (s : State) : (handover s).roster = s.roster := by
  unfold handover; split <;> simp
@[simp] theorem handover_port (s : State) : (handover s).port = s.port := by
  unfold handover; split <;> simp
@[simp] theorem handover_override (s : State) : (handover s).override = s.override := by
  unfold handover; split <;> simp
@[simp] theorem handover_alloc (s : State) : (handover s).alloc = s.alloc := by
  unfold handover; split <;> simp
@[simp] theorem handover_wheel (s : State) : (handover s).wheel = s.wheel := by
  unfold handover; split <;> simp
@[simp] theorem handover_vref (s : State) : (handover s).vref = s.vref := by
  unfold handover; split <;> simp
@[simp] theorem handover_slip (s : State) : (handover s).slip = s.slip := by
  unfold handover; split <;> simp
@[simp] theorem handover_sampling (s : State) : (handover s).sampling = s.sampling := by
  unfold handover; split <;> simp
@[simp] theorem handover_valve (s : State) : (handover s).valve = s.valve := by
  unfold handover; split <;> simp
@[simp] theorem handover_park (s : State) : (handover s).park = s.park := by
  unfold handover; split <;> simp
@[simp] theorem handover_exercise (s : State) : (handover s).exercise = s.exercise := by
  unfold handover; split <;> simp
@[simp] theorem handover_circuit (s : State) : (handover s).circuit = s.circuit := by
  unfold handover; split <;> simp
@[simp] theorem handover_pedalRun (s : State) : (handover s).pedalRun = s.pedalRun := by
  unfold handover; split <;> simp
@[simp] theorem handover_trip (s : State) : (handover s).trip = s.trip := by
  unfold handover; split <;> simp
@[simp] theorem handover_coord (s : State) : (handover s).coord = s.coord := by
  unfold handover; split <;> simp
@[simp] theorem handover_excerpt (s : State) : (handover s).excerpt = s.excerpt := by
  unfold handover; split <;> simp
@[simp] theorem handover_status (s : State) : (handover s).status = s.status := by
  unfold handover; split <;> simp
@[simp] theorem handover_settings (s : State) : (handover s).settings = s.settings := by
  unfold handover; split <;> simp

/-! `promote` changes no field but port, exercise, coord, table, park. -/

@[simp] theorem promote_pending (s : State) : (promote s).pending = s.pending := by
  simp [promote]
@[simp] theorem promote_draws (s : State) : (promote s).draws = s.draws := by
  simp [promote]
@[simp] theorem promote_clock (s : State) : (promote s).clock = s.clock := by
  simp [promote]
@[simp] theorem promote_lines (s : State) : (promote s).lines = s.lines := by
  simp [promote]
@[simp] theorem promote_door (s : State) : (promote s).door = s.door := by
  simp [promote]
@[simp] theorem promote_parkSwitch (s : State) : (promote s).parkSwitch = s.parkSwitch := by
  simp [promote]
@[simp] theorem promote_doorOpenMoving (s : State) : (promote s).doorOpenMoving = s.doorOpenMoving := by
  simp [promote]
@[simp] theorem promote_pedal (s : State) : (promote s).pedal = s.pedal := by
  simp [promote]
@[simp] theorem promote_roster (s : State) : (promote s).roster = s.roster := by
  simp [promote]
@[simp] theorem promote_override (s : State) : (promote s).override = s.override := by
  simp [promote]
@[simp] theorem promote_alloc (s : State) : (promote s).alloc = s.alloc := by
  simp [promote]
@[simp] theorem promote_wheel (s : State) : (promote s).wheel = s.wheel := by
  simp [promote]
@[simp] theorem promote_vref (s : State) : (promote s).vref = s.vref := by
  simp [promote]
@[simp] theorem promote_slip (s : State) : (promote s).slip = s.slip := by
  simp [promote]
@[simp] theorem promote_sampling (s : State) : (promote s).sampling = s.sampling := by
  simp [promote]
@[simp] theorem promote_valve (s : State) : (promote s).valve = s.valve := by
  simp [promote]
@[simp] theorem promote_circuit (s : State) : (promote s).circuit = s.circuit := by
  simp [promote]
@[simp] theorem promote_pedalRun (s : State) : (promote s).pedalRun = s.pedalRun := by
  simp [promote]
@[simp] theorem promote_trip (s : State) : (promote s).trip = s.trip := by
  simp [promote]
@[simp] theorem promote_excerpt (s : State) : (promote s).excerpt = s.excerpt := by
  simp [promote]
@[simp] theorem promote_status (s : State) : (promote s).status = s.status := by
  simp [promote]
@[simp] theorem promote_settings (s : State) : (promote s).settings = s.settings := by
  simp [promote]

/-! `enterRun` changes no field but port, exercise, coord. -/

@[simp] theorem enterRun_pending (s : State) : (enterRun s).pending = s.pending := by
  unfold enterRun; split <;> simp
@[simp] theorem enterRun_draws (s : State) : (enterRun s).draws = s.draws := by
  unfold enterRun; split <;> simp
@[simp] theorem enterRun_clock (s : State) : (enterRun s).clock = s.clock := by
  unfold enterRun; split <;> simp
@[simp] theorem enterRun_lines (s : State) : (enterRun s).lines = s.lines := by
  unfold enterRun; split <;> simp
@[simp] theorem enterRun_door (s : State) : (enterRun s).door = s.door := by
  unfold enterRun; split <;> simp
@[simp] theorem enterRun_parkSwitch (s : State) : (enterRun s).parkSwitch = s.parkSwitch := by
  unfold enterRun; split <;> simp
@[simp] theorem enterRun_doorOpenMoving (s : State) : (enterRun s).doorOpenMoving = s.doorOpenMoving := by
  unfold enterRun; split <;> simp
@[simp] theorem enterRun_pedal (s : State) : (enterRun s).pedal = s.pedal := by
  unfold enterRun; split <;> simp
@[simp] theorem enterRun_roster (s : State) : (enterRun s).roster = s.roster := by
  unfold enterRun; split <;> simp
@[simp] theorem enterRun_table (s : State) : (enterRun s).table = s.table := by
  unfold enterRun; split <;> simp
@[simp] theorem enterRun_override (s : State) : (enterRun s).override = s.override := by
  unfold enterRun; split <;> simp
@[simp] theorem enterRun_alloc (s : State) : (enterRun s).alloc = s.alloc := by
  unfold enterRun; split <;> simp
@[simp] theorem enterRun_wheel (s : State) : (enterRun s).wheel = s.wheel := by
  unfold enterRun; split <;> simp
@[simp] theorem enterRun_vref (s : State) : (enterRun s).vref = s.vref := by
  unfold enterRun; split <;> simp
@[simp] theorem enterRun_slip (s : State) : (enterRun s).slip = s.slip := by
  unfold enterRun; split <;> simp
@[simp] theorem enterRun_sampling (s : State) : (enterRun s).sampling = s.sampling := by
  unfold enterRun; split <;> simp
@[simp] theorem enterRun_valve (s : State) : (enterRun s).valve = s.valve := by
  unfold enterRun; split <;> simp
@[simp] theorem enterRun_park (s : State) : (enterRun s).park = s.park := by
  unfold enterRun; split <;> simp
@[simp] theorem enterRun_circuit (s : State) : (enterRun s).circuit = s.circuit := by
  unfold enterRun; split <;> simp
@[simp] theorem enterRun_pedalRun (s : State) : (enterRun s).pedalRun = s.pedalRun := by
  unfold enterRun; split <;> simp
@[simp] theorem enterRun_trip (s : State) : (enterRun s).trip = s.trip := by
  unfold enterRun; split <;> simp
@[simp] theorem enterRun_excerpt (s : State) : (enterRun s).excerpt = s.excerpt := by
  unfold enterRun; split <;> simp
@[simp] theorem enterRun_status (s : State) : (enterRun s).status = s.status := by
  unfold enterRun; split <;> simp
@[simp] theorem enterRun_settings (s : State) : (enterRun s).settings = s.settings := by
  unfold enterRun; split <;> simp

/-! `enterStopHold` changes no field but port, exercise, coord, table. -/

@[simp] theorem enterStopHold_pending (s : State) : (enterStopHold s).pending = s.pending := by
  simp [enterStopHold]
@[simp] theorem enterStopHold_draws (s : State) : (enterStopHold s).draws = s.draws := by
  simp [enterStopHold]
@[simp] theorem enterStopHold_clock (s : State) : (enterStopHold s).clock = s.clock := by
  simp [enterStopHold]
@[simp] theorem enterStopHold_lines (s : State) : (enterStopHold s).lines = s.lines := by
  simp [enterStopHold]
@[simp] theorem enterStopHold_door (s : State) : (enterStopHold s).door = s.door := by
  simp [enterStopHold]
@[simp] theorem enterStopHold_parkSwitch (s : State) : (enterStopHold s).parkSwitch = s.parkSwitch := by
  simp [enterStopHold]
@[simp] theorem enterStopHold_doorOpenMoving (s : State) : (enterStopHold s).doorOpenMoving = s.doorOpenMoving := by
  simp [enterStopHold]
@[simp] theorem enterStopHold_pedal (s : State) : (enterStopHold s).pedal = s.pedal := by
  simp [enterStopHold]
@[simp] theorem enterStopHold_roster (s : State) : (enterStopHold s).roster = s.roster := by
  simp [enterStopHold]
@[simp] theorem enterStopHold_override (s : State) : (enterStopHold s).override = s.override := by
  simp [enterStopHold]
@[simp] theorem enterStopHold_alloc (s : State) : (enterStopHold s).alloc = s.alloc := by
  simp [enterStopHold]
@[simp] theorem enterStopHold_wheel (s : State) : (enterStopHold s).wheel = s.wheel := by
  simp [enterStopHold]
@[simp] theorem enterStopHold_vref (s : State) : (enterStopHold s).vref = s.vref := by
  simp [enterStopHold]
@[simp] theorem enterStopHold_slip (s : State) : (enterStopHold s).slip = s.slip := by
  simp [enterStopHold]
@[simp] theorem enterStopHold_sampling (s : State) : (enterStopHold s).sampling = s.sampling := by
  simp [enterStopHold]
@[simp] theorem enterStopHold_valve (s : State) : (enterStopHold s).valve = s.valve := by
  simp [enterStopHold]
@[simp] theorem enterStopHold_park (s : State) : (enterStopHold s).park = s.park := by
  simp [enterStopHold]
@[simp] theorem enterStopHold_circuit (s : State) : (enterStopHold s).circuit = s.circuit := by
  simp [enterStopHold]
@[simp] theorem enterStopHold_pedalRun (s : State) : (enterStopHold s).pedalRun = s.pedalRun := by
  simp [enterStopHold]
@[simp] theorem enterStopHold_trip (s : State) : (enterStopHold s).trip = s.trip := by
  simp [enterStopHold]
@[simp] theorem enterStopHold_excerpt (s : State) : (enterStopHold s).excerpt = s.excerpt := by
  simp [enterStopHold]
@[simp] theorem enterStopHold_status (s : State) : (enterStopHold s).status = s.status := by
  simp [enterStopHold]
@[simp] theorem enterStopHold_settings (s : State) : (enterStopHold s).settings = s.settings := by
  simp [enterStopHold]

/-! `evalStopHold` changes no field but port, exercise, coord, table. -/

@[simp] theorem evalStopHold_pending (s : State) : (evalStopHold s).pending = s.pending := by
  unfold evalStopHold; split <;> simp
@[simp] theorem evalStopHold_draws (s : State) : (evalStopHold s).draws = s.draws := by
  unfold evalStopHold; split <;> simp
@[simp] theorem evalStopHold_clock (s : State) : (evalStopHold s).clock = s.clock := by
  unfold evalStopHold; split <;> simp
@[simp] theorem evalStopHold_lines (s : State) : (evalStopHold s).lines = s.lines := by
  unfold evalStopHold; split <;> simp
@[simp] theorem evalStopHold_door (s : State) : (evalStopHold s).door = s.door := by
  unfold evalStopHold; split <;> simp
@[simp] theorem evalStopHold_parkSwitch (s : State) : (evalStopHold s).parkSwitch = s.parkSwitch := by
  unfold evalStopHold; split <;> simp
@[simp] theorem evalStopHold_doorOpenMoving (s : State) : (evalStopHold s).doorOpenMoving = s.doorOpenMoving := by
  unfold evalStopHold; split <;> simp
@[simp] theorem evalStopHold_pedal (s : State) : (evalStopHold s).pedal = s.pedal := by
  unfold evalStopHold; split <;> simp
@[simp] theorem evalStopHold_roster (s : State) : (evalStopHold s).roster = s.roster := by
  unfold evalStopHold; split <;> simp
@[simp] theorem evalStopHold_override (s : State) : (evalStopHold s).override = s.override := by
  unfold evalStopHold; split <;> simp
@[simp] theorem evalStopHold_alloc (s : State) : (evalStopHold s).alloc = s.alloc := by
  unfold evalStopHold; split <;> simp
@[simp] theorem evalStopHold_wheel (s : State) : (evalStopHold s).wheel = s.wheel := by
  unfold evalStopHold; split <;> simp
@[simp] theorem evalStopHold_vref (s : State) : (evalStopHold s).vref = s.vref := by
  unfold evalStopHold; split <;> simp
@[simp] theorem evalStopHold_slip (s : State) : (evalStopHold s).slip = s.slip := by
  unfold evalStopHold; split <;> simp
@[simp] theorem evalStopHold_sampling (s : State) : (evalStopHold s).sampling = s.sampling := by
  unfold evalStopHold; split <;> simp
@[simp] theorem evalStopHold_valve (s : State) : (evalStopHold s).valve = s.valve := by
  unfold evalStopHold; split <;> simp
@[simp] theorem evalStopHold_park (s : State) : (evalStopHold s).park = s.park := by
  unfold evalStopHold; split <;> simp
@[simp] theorem evalStopHold_circuit (s : State) : (evalStopHold s).circuit = s.circuit := by
  unfold evalStopHold; split <;> simp
@[simp] theorem evalStopHold_pedalRun (s : State) : (evalStopHold s).pedalRun = s.pedalRun := by
  unfold evalStopHold; split <;> simp
@[simp] theorem evalStopHold_trip (s : State) : (evalStopHold s).trip = s.trip := by
  unfold evalStopHold; split <;> simp
@[simp] theorem evalStopHold_excerpt (s : State) : (evalStopHold s).excerpt = s.excerpt := by
  unfold evalStopHold; split <;> simp
@[simp] theorem evalStopHold_status (s : State) : (evalStopHold s).status = s.status := by
  unfold evalStopHold; split <;> simp
@[simp] theorem evalStopHold_settings (s : State) : (evalStopHold s).settings = s.settings := by
  unfold evalStopHold; split <;> simp

/-! `evalReturn` changes no field but port, exercise, coord, table. -/

@[simp] theorem evalReturn_pending (s : State) : (evalReturn s).pending = s.pending := by
  unfold evalReturn; split <;> simp
@[simp] theorem evalReturn_draws (s : State) : (evalReturn s).draws = s.draws := by
  unfold evalReturn; split <;> simp
@[simp] theorem evalReturn_clock (s : State) : (evalReturn s).clock = s.clock := by
  unfold evalReturn; split <;> simp
@[simp] theorem evalReturn_lines (s : State) : (evalReturn s).lines = s.lines := by
  unfold evalReturn; split <;> simp
@[simp] theorem evalReturn_door (s : State) : (evalReturn s).door = s.door := by
  unfold evalReturn; split <;> simp
@[simp] theorem evalReturn_parkSwitch (s : State) : (evalReturn s).parkSwitch = s.parkSwitch := by
  unfold evalReturn; split <;> simp
@[simp] theorem evalReturn_doorOpenMoving (s : State) : (evalReturn s).doorOpenMoving = s.doorOpenMoving := by
  unfold evalReturn; split <;> simp
@[simp] theorem evalReturn_pedal (s : State) : (evalReturn s).pedal = s.pedal := by
  unfold evalReturn; split <;> simp
@[simp] theorem evalReturn_roster (s : State) : (evalReturn s).roster = s.roster := by
  unfold evalReturn; split <;> simp
@[simp] theorem evalReturn_override (s : State) : (evalReturn s).override = s.override := by
  unfold evalReturn; split <;> simp
@[simp] theorem evalReturn_alloc (s : State) : (evalReturn s).alloc = s.alloc := by
  unfold evalReturn; split <;> simp
@[simp] theorem evalReturn_wheel (s : State) : (evalReturn s).wheel = s.wheel := by
  unfold evalReturn; split <;> simp
@[simp] theorem evalReturn_vref (s : State) : (evalReturn s).vref = s.vref := by
  unfold evalReturn; split <;> simp
@[simp] theorem evalReturn_slip (s : State) : (evalReturn s).slip = s.slip := by
  unfold evalReturn; split <;> simp
@[simp] theorem evalReturn_sampling (s : State) : (evalReturn s).sampling = s.sampling := by
  unfold evalReturn; split <;> simp
@[simp] theorem evalReturn_valve (s : State) : (evalReturn s).valve = s.valve := by
  unfold evalReturn; split <;> simp
@[simp] theorem evalReturn_park (s : State) : (evalReturn s).park = s.park := by
  unfold evalReturn; split <;> simp
@[simp] theorem evalReturn_circuit (s : State) : (evalReturn s).circuit = s.circuit := by
  unfold evalReturn; split <;> simp
@[simp] theorem evalReturn_pedalRun (s : State) : (evalReturn s).pedalRun = s.pedalRun := by
  unfold evalReturn; split <;> simp
@[simp] theorem evalReturn_trip (s : State) : (evalReturn s).trip = s.trip := by
  unfold evalReturn; split <;> simp
@[simp] theorem evalReturn_excerpt (s : State) : (evalReturn s).excerpt = s.excerpt := by
  unfold evalReturn; split <;> simp
@[simp] theorem evalReturn_status (s : State) : (evalReturn s).status = s.status := by
  unfold evalReturn; split <;> simp
@[simp] theorem evalReturn_settings (s : State) : (evalReturn s).settings = s.settings := by
  unfold evalReturn; split <;> simp

/-! `considerPromotion` changes no field but port, exercise, coord, table, park. -/

@[simp] theorem considerPromotion_pending (s : State) : (considerPromotion s).pending = s.pending := by
  unfold considerPromotion; split <;> simp
@[simp] theorem considerPromotion_draws (s : State) : (considerPromotion s).draws = s.draws := by
  unfold considerPromotion; split <;> simp
@[simp] theorem considerPromotion_clock (s : State) : (considerPromotion s).clock = s.clock := by
  unfold considerPromotion; split <;> simp
@[simp] theorem considerPromotion_lines (s : State) : (considerPromotion s).lines = s.lines := by
  unfold considerPromotion; split <;> simp
@[simp] theorem considerPromotion_door (s : State) : (considerPromotion s).door = s.door := by
  unfold considerPromotion; split <;> simp
@[simp] theorem considerPromotion_parkSwitch (s : State) : (considerPromotion s).parkSwitch = s.parkSwitch := by
  unfold considerPromotion; split <;> simp
@[simp] theorem considerPromotion_doorOpenMoving (s : State) : (considerPromotion s).doorOpenMoving = s.doorOpenMoving := by
  unfold considerPromotion; split <;> simp
@[simp] theorem considerPromotion_pedal (s : State) : (considerPromotion s).pedal = s.pedal := by
  unfold considerPromotion; split <;> simp
@[simp] theorem considerPromotion_roster (s : State) : (considerPromotion s).roster = s.roster := by
  unfold considerPromotion; split <;> simp
@[simp] theorem considerPromotion_override (s : State) : (considerPromotion s).override = s.override := by
  unfold considerPromotion; split <;> simp
@[simp] theorem considerPromotion_alloc (s : State) : (considerPromotion s).alloc = s.alloc := by
  unfold considerPromotion; split <;> simp
@[simp] theorem considerPromotion_wheel (s : State) : (considerPromotion s).wheel = s.wheel := by
  unfold considerPromotion; split <;> simp
@[simp] theorem considerPromotion_vref (s : State) : (considerPromotion s).vref = s.vref := by
  unfold considerPromotion; split <;> simp
@[simp] theorem considerPromotion_slip (s : State) : (considerPromotion s).slip = s.slip := by
  unfold considerPromotion; split <;> simp
@[simp] theorem considerPromotion_sampling (s : State) : (considerPromotion s).sampling = s.sampling := by
  unfold considerPromotion; split <;> simp
@[simp] theorem considerPromotion_valve (s : State) : (considerPromotion s).valve = s.valve := by
  unfold considerPromotion; split <;> simp
@[simp] theorem considerPromotion_circuit (s : State) : (considerPromotion s).circuit = s.circuit := by
  unfold considerPromotion; split <;> simp
@[simp] theorem considerPromotion_pedalRun (s : State) : (considerPromotion s).pedalRun = s.pedalRun := by
  unfold considerPromotion; split <;> simp
@[simp] theorem considerPromotion_trip (s : State) : (considerPromotion s).trip = s.trip := by
  unfold considerPromotion; split <;> simp
@[simp] theorem considerPromotion_excerpt (s : State) : (considerPromotion s).excerpt = s.excerpt := by
  unfold considerPromotion; split <;> simp
@[simp] theorem considerPromotion_status (s : State) : (considerPromotion s).status = s.status := by
  unfold considerPromotion; split <;> simp
@[simp] theorem considerPromotion_settings (s : State) : (considerPromotion s).settings = s.settings := by
  unfold considerPromotion; split <;> simp

/-! `driveOff` changes no field but port, exercise, coord, table, park. -/

@[simp] theorem driveOff_pending (s : State) : (driveOff s).pending = s.pending := by
  simp [driveOff]
@[simp] theorem driveOff_draws (s : State) : (driveOff s).draws = s.draws := by
  simp [driveOff]
@[simp] theorem driveOff_clock (s : State) : (driveOff s).clock = s.clock := by
  simp [driveOff]
@[simp] theorem driveOff_lines (s : State) : (driveOff s).lines = s.lines := by
  simp [driveOff]
@[simp] theorem driveOff_door (s : State) : (driveOff s).door = s.door := by
  simp [driveOff]
@[simp] theorem driveOff_parkSwitch (s : State) : (driveOff s).parkSwitch = s.parkSwitch := by
  simp [driveOff]
@[simp] theorem driveOff_doorOpenMoving (s : State) : (driveOff s).doorOpenMoving = s.doorOpenMoving := by
  simp [driveOff]
@[simp] theorem driveOff_pedal (s : State) : (driveOff s).pedal = s.pedal := by
  simp [driveOff]
@[simp] theorem driveOff_roster (s : State) : (driveOff s).roster = s.roster := by
  simp [driveOff]
@[simp] theorem driveOff_override (s : State) : (driveOff s).override = s.override := by
  simp [driveOff]
@[simp] theorem driveOff_alloc (s : State) : (driveOff s).alloc = s.alloc := by
  simp [driveOff]
@[simp] theorem driveOff_wheel (s : State) : (driveOff s).wheel = s.wheel := by
  simp [driveOff]
@[simp] theorem driveOff_vref (s : State) : (driveOff s).vref = s.vref := by
  simp [driveOff]
@[simp] theorem driveOff_slip (s : State) : (driveOff s).slip = s.slip := by
  simp [driveOff]
@[simp] theorem driveOff_sampling (s : State) : (driveOff s).sampling = s.sampling := by
  simp [driveOff]
@[simp] theorem driveOff_valve (s : State) : (driveOff s).valve = s.valve := by
  simp [driveOff]
@[simp] theorem driveOff_circuit (s : State) : (driveOff s).circuit = s.circuit := by
  simp [driveOff]
@[simp] theorem driveOff_pedalRun (s : State) : (driveOff s).pedalRun = s.pedalRun := by
  simp [driveOff]
@[simp] theorem driveOff_trip (s : State) : (driveOff s).trip = s.trip := by
  simp [driveOff]
@[simp] theorem driveOff_excerpt (s : State) : (driveOff s).excerpt = s.excerpt := by
  simp [driveOff]
@[simp] theorem driveOff_status (s : State) : (driveOff s).status = s.status := by
  simp [driveOff]
@[simp] theorem driveOff_settings (s : State) : (driveOff s).settings = s.settings := by
  simp [driveOff]

/-! `evalDriveOff` changes no field but port, exercise, coord, table, park. -/

@[simp] theorem evalDriveOff_pending (s : State) : (evalDriveOff s).pending = s.pending := by
  unfold evalDriveOff; split <;> simp
@[simp] theorem evalDriveOff_draws (s : State) : (evalDriveOff s).draws = s.draws := by
  unfold evalDriveOff; split <;> simp
@[simp] theorem evalDriveOff_clock (s : State) : (evalDriveOff s).clock = s.clock := by
  unfold evalDriveOff; split <;> simp
@[simp] theorem evalDriveOff_lines (s : State) : (evalDriveOff s).lines = s.lines := by
  unfold evalDriveOff; split <;> simp
@[simp] theorem evalDriveOff_door (s : State) : (evalDriveOff s).door = s.door := by
  unfold evalDriveOff; split <;> simp
@[simp] theorem evalDriveOff_parkSwitch (s : State) : (evalDriveOff s).parkSwitch = s.parkSwitch := by
  unfold evalDriveOff; split <;> simp
@[simp] theorem evalDriveOff_doorOpenMoving (s : State) : (evalDriveOff s).doorOpenMoving = s.doorOpenMoving := by
  unfold evalDriveOff; split <;> simp
@[simp] theorem evalDriveOff_pedal (s : State) : (evalDriveOff s).pedal = s.pedal := by
  unfold evalDriveOff; split <;> simp
@[simp] theorem evalDriveOff_roster (s : State) : (evalDriveOff s).roster = s.roster := by
  unfold evalDriveOff; split <;> simp
@[simp] theorem evalDriveOff_override (s : State) : (evalDriveOff s).override = s.override := by
  unfold evalDriveOff; split <;> simp
@[simp] theorem evalDriveOff_alloc (s : State) : (evalDriveOff s).alloc = s.alloc := by
  unfold evalDriveOff; split <;> simp
@[simp] theorem evalDriveOff_wheel (s : State) : (evalDriveOff s).wheel = s.wheel := by
  unfold evalDriveOff; split <;> simp
@[simp] theorem evalDriveOff_vref (s : State) : (evalDriveOff s).vref = s.vref := by
  unfold evalDriveOff; split <;> simp
@[simp] theorem evalDriveOff_slip (s : State) : (evalDriveOff s).slip = s.slip := by
  unfold evalDriveOff; split <;> simp
@[simp] theorem evalDriveOff_sampling (s : State) : (evalDriveOff s).sampling = s.sampling := by
  unfold evalDriveOff; split <;> simp
@[simp] theorem evalDriveOff_valve (s : State) : (evalDriveOff s).valve = s.valve := by
  unfold evalDriveOff; split <;> simp
@[simp] theorem evalDriveOff_circuit (s : State) : (evalDriveOff s).circuit = s.circuit := by
  unfold evalDriveOff; split <;> simp
@[simp] theorem evalDriveOff_pedalRun (s : State) : (evalDriveOff s).pedalRun = s.pedalRun := by
  unfold evalDriveOff; split <;> simp
@[simp] theorem evalDriveOff_trip (s : State) : (evalDriveOff s).trip = s.trip := by
  unfold evalDriveOff; split <;> simp
@[simp] theorem evalDriveOff_excerpt (s : State) : (evalDriveOff s).excerpt = s.excerpt := by
  unfold evalDriveOff; split <;> simp
@[simp] theorem evalDriveOff_status (s : State) : (evalDriveOff s).status = s.status := by
  unfold evalDriveOff; split <;> simp
@[simp] theorem evalDriveOff_settings (s : State) : (evalDriveOff s).settings = s.settings := by
  unfold evalDriveOff; split <;> simp

/-! `undoDriveOff` changes no field but port, exercise, coord, table, park. -/

@[simp] theorem undoDriveOff_pending (s : State) : (undoDriveOff s).pending = s.pending := by
  simp [undoDriveOff]
@[simp] theorem undoDriveOff_draws (s : State) : (undoDriveOff s).draws = s.draws := by
  simp [undoDriveOff]
@[simp] theorem undoDriveOff_clock (s : State) : (undoDriveOff s).clock = s.clock := by
  simp [undoDriveOff]
@[simp] theorem undoDriveOff_lines (s : State) : (undoDriveOff s).lines = s.lines := by
  simp [undoDriveOff]
@[simp] theorem undoDriveOff_door (s : State) : (undoDriveOff s).door = s.door := by
  simp [undoDriveOff]
@[simp] theorem undoDriveOff_parkSwitch (s : State) : (undoDriveOff s).parkSwitch = s.parkSwitch := by
  simp [undoDriveOff]
@[simp] theorem undoDriveOff_doorOpenMoving (s : State) : (undoDriveOff s).doorOpenMoving = s.doorOpenMoving := by
  simp [undoDriveOff]
@[simp] theorem undoDriveOff_pedal (s : State) : (undoDriveOff s).pedal = s.pedal := by
  simp [undoDriveOff]
@[simp] theorem undoDriveOff_roster (s : State) : (undoDriveOff s).roster = s.roster := by
  simp [undoDriveOff]
@[simp] theorem undoDriveOff_override (s : State) : (undoDriveOff s).override = s.override := by
  simp [undoDriveOff]
@[simp] theorem undoDriveOff_alloc (s : State) : (undoDriveOff s).alloc = s.alloc := by
  simp [undoDriveOff]
@[simp] theorem undoDriveOff_wheel (s : State) : (undoDriveOff s).wheel = s.wheel := by
  simp [undoDriveOff]
@[simp] theorem undoDriveOff_vref (s : State) : (undoDriveOff s).vref = s.vref := by
  simp [undoDriveOff]
@[simp] theorem undoDriveOff_slip (s : State) : (undoDriveOff s).slip = s.slip := by
  simp [undoDriveOff]
@[simp] theorem undoDriveOff_sampling (s : State) : (undoDriveOff s).sampling = s.sampling := by
  simp [undoDriveOff]
@[simp] theorem undoDriveOff_valve (s : State) : (undoDriveOff s).valve = s.valve := by
  simp [undoDriveOff]
@[simp] theorem undoDriveOff_circuit (s : State) : (undoDriveOff s).circuit = s.circuit := by
  simp [undoDriveOff]
@[simp] theorem undoDriveOff_pedalRun (s : State) : (undoDriveOff s).pedalRun = s.pedalRun := by
  simp [undoDriveOff]
@[simp] theorem undoDriveOff_trip (s : State) : (undoDriveOff s).trip = s.trip := by
  simp [undoDriveOff]
@[simp] theorem undoDriveOff_excerpt (s : State) : (undoDriveOff s).excerpt = s.excerpt := by
  simp [undoDriveOff]
@[simp] theorem undoDriveOff_status (s : State) : (undoDriveOff s).status = s.status := by
  simp [undoDriveOff]
@[simp] theorem undoDriveOff_settings (s : State) : (undoDriveOff s).settings = s.settings := by
  simp [undoDriveOff]

/-! `creepFound` changes no field but port, exercise, coord, table, park. -/

@[simp] theorem creepFound_pending (s : State) : (creepFound s).pending = s.pending := by
  unfold creepFound; (repeat' split) <;> simp
@[simp] theorem creepFound_draws (s : State) : (creepFound s).draws = s.draws := by
  unfold creepFound; (repeat' split) <;> simp
@[simp] theorem creepFound_clock (s : State) : (creepFound s).clock = s.clock := by
  unfold creepFound; (repeat' split) <;> simp
@[simp] theorem creepFound_lines (s : State) : (creepFound s).lines = s.lines := by
  unfold creepFound; (repeat' split) <;> simp
@[simp] theorem creepFound_door (s : State) : (creepFound s).door = s.door := by
  unfold creepFound; (repeat' split) <;> simp
@[simp] theorem creepFound_parkSwitch (s : State) : (creepFound s).parkSwitch = s.parkSwitch := by
  unfold creepFound; (repeat' split) <;> simp
@[simp] theorem creepFound_doorOpenMoving (s : State) : (creepFound s).doorOpenMoving = s.doorOpenMoving := by
  unfold creepFound; (repeat' split) <;> simp
@[simp] theorem creepFound_pedal (s : State) : (creepFound s).pedal = s.pedal := by
  unfold creepFound; (repeat' split) <;> simp
@[simp] theorem creepFound_roster (s : State) : (creepFound s).roster = s.roster := by
  unfold creepFound; (repeat' split) <;> simp
@[simp] theorem creepFound_override (s : State) : (creepFound s).override = s.override := by
  unfold creepFound; (repeat' split) <;> simp
@[simp] theorem creepFound_alloc (s : State) : (creepFound s).alloc = s.alloc := by
  unfold creepFound; (repeat' split) <;> simp
@[simp] theorem creepFound_wheel (s : State) : (creepFound s).wheel = s.wheel := by
  unfold creepFound; (repeat' split) <;> simp
@[simp] theorem creepFound_vref (s : State) : (creepFound s).vref = s.vref := by
  unfold creepFound; (repeat' split) <;> simp
@[simp] theorem creepFound_slip (s : State) : (creepFound s).slip = s.slip := by
  unfold creepFound; (repeat' split) <;> simp
@[simp] theorem creepFound_sampling (s : State) : (creepFound s).sampling = s.sampling := by
  unfold creepFound; (repeat' split) <;> simp
@[simp] theorem creepFound_valve (s : State) : (creepFound s).valve = s.valve := by
  unfold creepFound; (repeat' split) <;> simp
@[simp] theorem creepFound_circuit (s : State) : (creepFound s).circuit = s.circuit := by
  unfold creepFound; (repeat' split) <;> simp
@[simp] theorem creepFound_pedalRun (s : State) : (creepFound s).pedalRun = s.pedalRun := by
  unfold creepFound; (repeat' split) <;> simp
@[simp] theorem creepFound_trip (s : State) : (creepFound s).trip = s.trip := by
  unfold creepFound; (repeat' split) <;> simp
@[simp] theorem creepFound_excerpt (s : State) : (creepFound s).excerpt = s.excerpt := by
  unfold creepFound; (repeat' split) <;> simp
@[simp] theorem creepFound_status (s : State) : (creepFound s).status = s.status := by
  unfold creepFound; (repeat' split) <;> simp
@[simp] theorem creepFound_settings (s : State) : (creepFound s).settings = s.settings := by
  unfold creepFound; (repeat' split) <;> simp

/-! `creepEdge` changes no field but port, exercise, coord, table, park. -/

@[simp] theorem creepEdge_pending (s : State) (c : Channel) : (creepEdge s c).pending = s.pending := by
  unfold creepEdge; (repeat' split) <;> simp
@[simp] theorem creepEdge_draws (s : State) (c : Channel) : (creepEdge s c).draws = s.draws := by
  unfold creepEdge; (repeat' split) <;> simp
@[simp] theorem creepEdge_clock (s : State) (c : Channel) : (creepEdge s c).clock = s.clock := by
  unfold creepEdge; (repeat' split) <;> simp
@[simp] theorem creepEdge_lines (s : State) (c : Channel) : (creepEdge s c).lines = s.lines := by
  unfold creepEdge; (repeat' split) <;> simp
@[simp] theorem creepEdge_door (s : State) (c : Channel) : (creepEdge s c).door = s.door := by
  unfold creepEdge; (repeat' split) <;> simp
@[simp] theorem creepEdge_parkSwitch (s : State) (c : Channel) : (creepEdge s c).parkSwitch = s.parkSwitch := by
  unfold creepEdge; (repeat' split) <;> simp
@[simp] theorem creepEdge_doorOpenMoving (s : State) (c : Channel) : (creepEdge s c).doorOpenMoving = s.doorOpenMoving := by
  unfold creepEdge; (repeat' split) <;> simp
@[simp] theorem creepEdge_pedal (s : State) (c : Channel) : (creepEdge s c).pedal = s.pedal := by
  unfold creepEdge; (repeat' split) <;> simp
@[simp] theorem creepEdge_roster (s : State) (c : Channel) : (creepEdge s c).roster = s.roster := by
  unfold creepEdge; (repeat' split) <;> simp
@[simp] theorem creepEdge_override (s : State) (c : Channel) : (creepEdge s c).override = s.override := by
  unfold creepEdge; (repeat' split) <;> simp
@[simp] theorem creepEdge_alloc (s : State) (c : Channel) : (creepEdge s c).alloc = s.alloc := by
  unfold creepEdge; (repeat' split) <;> simp
@[simp] theorem creepEdge_wheel (s : State) (c : Channel) : (creepEdge s c).wheel = s.wheel := by
  unfold creepEdge; (repeat' split) <;> simp
@[simp] theorem creepEdge_vref (s : State) (c : Channel) : (creepEdge s c).vref = s.vref := by
  unfold creepEdge; (repeat' split) <;> simp
@[simp] theorem creepEdge_slip (s : State) (c : Channel) : (creepEdge s c).slip = s.slip := by
  unfold creepEdge; (repeat' split) <;> simp
@[simp] theorem creepEdge_sampling (s : State) (c : Channel) : (creepEdge s c).sampling = s.sampling := by
  unfold creepEdge; (repeat' split) <;> simp
@[simp] theorem creepEdge_valve (s : State) (c : Channel) : (creepEdge s c).valve = s.valve := by
  unfold creepEdge; (repeat' split) <;> simp
@[simp] theorem creepEdge_circuit (s : State) (c : Channel) : (creepEdge s c).circuit = s.circuit := by
  unfold creepEdge; (repeat' split) <;> simp
@[simp] theorem creepEdge_pedalRun (s : State) (c : Channel) : (creepEdge s c).pedalRun = s.pedalRun := by
  unfold creepEdge; (repeat' split) <;> simp
@[simp] theorem creepEdge_trip (s : State) (c : Channel) : (creepEdge s c).trip = s.trip := by
  unfold creepEdge; (repeat' split) <;> simp
@[simp] theorem creepEdge_excerpt (s : State) (c : Channel) : (creepEdge s c).excerpt = s.excerpt := by
  unfold creepEdge; (repeat' split) <;> simp
@[simp] theorem creepEdge_status (s : State) (c : Channel) : (creepEdge s c).status = s.status := by
  unfold creepEdge; (repeat' split) <;> simp
@[simp] theorem creepEdge_settings (s : State) (c : Channel) : (creepEdge s c).settings = s.settings := by
  unfold creepEdge; (repeat' split) <;> simp

/-! `rollingFound` changes no field but port, status, override, coord, park. -/

@[simp] theorem rollingFound_pending (s : State) : (rollingFound s).pending = s.pending := by
  simp [rollingFound]
@[simp] theorem rollingFound_draws (s : State) : (rollingFound s).draws = s.draws := by
  simp [rollingFound]
@[simp] theorem rollingFound_clock (s : State) : (rollingFound s).clock = s.clock := by
  simp [rollingFound]
@[simp] theorem rollingFound_lines (s : State) : (rollingFound s).lines = s.lines := by
  simp [rollingFound]
@[simp] theorem rollingFound_door (s : State) : (rollingFound s).door = s.door := by
  simp [rollingFound]
@[simp] theorem rollingFound_parkSwitch (s : State) : (rollingFound s).parkSwitch = s.parkSwitch := by
  simp [rollingFound]
@[simp] theorem rollingFound_doorOpenMoving (s : State) : (rollingFound s).doorOpenMoving = s.doorOpenMoving := by
  simp [rollingFound]
@[simp] theorem rollingFound_pedal (s : State) : (rollingFound s).pedal = s.pedal := by
  simp [rollingFound]
@[simp] theorem rollingFound_roster (s : State) : (rollingFound s).roster = s.roster := by
  simp [rollingFound]
@[simp] theorem rollingFound_table (s : State) : (rollingFound s).table = s.table := by
  simp [rollingFound]
@[simp] theorem rollingFound_alloc (s : State) : (rollingFound s).alloc = s.alloc := by
  simp [rollingFound]
@[simp] theorem rollingFound_wheel (s : State) : (rollingFound s).wheel = s.wheel := by
  simp [rollingFound]
@[simp] theorem rollingFound_vref (s : State) : (rollingFound s).vref = s.vref := by
  simp [rollingFound]
@[simp] theorem rollingFound_slip (s : State) : (rollingFound s).slip = s.slip := by
  simp [rollingFound]
@[simp] theorem rollingFound_sampling (s : State) : (rollingFound s).sampling = s.sampling := by
  simp [rollingFound]
@[simp] theorem rollingFound_valve (s : State) : (rollingFound s).valve = s.valve := by
  simp [rollingFound]
@[simp] theorem rollingFound_exercise (s : State) : (rollingFound s).exercise = s.exercise := by
  simp [rollingFound]
@[simp] theorem rollingFound_circuit (s : State) : (rollingFound s).circuit = s.circuit := by
  simp [rollingFound]
@[simp] theorem rollingFound_pedalRun (s : State) : (rollingFound s).pedalRun = s.pedalRun := by
  simp [rollingFound]
@[simp] theorem rollingFound_trip (s : State) : (rollingFound s).trip = s.trip := by
  simp [rollingFound]
@[simp] theorem rollingFound_excerpt (s : State) : (rollingFound s).excerpt = s.excerpt := by
  simp [rollingFound]
@[simp] theorem rollingFound_settings (s : State) : (rollingFound s).settings = s.settings := by
  simp [rollingFound]

/-! `rollingEdge` changes no field but port, status, override, coord, park. -/

@[simp] theorem rollingEdge_pending (s : State) (c : Channel) : (rollingEdge s c).pending = s.pending := by
  unfold rollingEdge; dsimp only; split <;> simp
@[simp] theorem rollingEdge_draws (s : State) (c : Channel) : (rollingEdge s c).draws = s.draws := by
  unfold rollingEdge; dsimp only; split <;> simp
@[simp] theorem rollingEdge_clock (s : State) (c : Channel) : (rollingEdge s c).clock = s.clock := by
  unfold rollingEdge; dsimp only; split <;> simp
@[simp] theorem rollingEdge_lines (s : State) (c : Channel) : (rollingEdge s c).lines = s.lines := by
  unfold rollingEdge; dsimp only; split <;> simp
@[simp] theorem rollingEdge_door (s : State) (c : Channel) : (rollingEdge s c).door = s.door := by
  unfold rollingEdge; dsimp only; split <;> simp
@[simp] theorem rollingEdge_parkSwitch (s : State) (c : Channel) : (rollingEdge s c).parkSwitch = s.parkSwitch := by
  unfold rollingEdge; dsimp only; split <;> simp
@[simp] theorem rollingEdge_doorOpenMoving (s : State) (c : Channel) : (rollingEdge s c).doorOpenMoving = s.doorOpenMoving := by
  unfold rollingEdge; dsimp only; split <;> simp
@[simp] theorem rollingEdge_pedal (s : State) (c : Channel) : (rollingEdge s c).pedal = s.pedal := by
  unfold rollingEdge; dsimp only; split <;> simp
@[simp] theorem rollingEdge_roster (s : State) (c : Channel) : (rollingEdge s c).roster = s.roster := by
  unfold rollingEdge; dsimp only; split <;> simp
@[simp] theorem rollingEdge_table (s : State) (c : Channel) : (rollingEdge s c).table = s.table := by
  unfold rollingEdge; dsimp only; split <;> simp
@[simp] theorem rollingEdge_alloc (s : State) (c : Channel) : (rollingEdge s c).alloc = s.alloc := by
  unfold rollingEdge; dsimp only; split <;> simp
@[simp] theorem rollingEdge_wheel (s : State) (c : Channel) : (rollingEdge s c).wheel = s.wheel := by
  unfold rollingEdge; dsimp only; split <;> simp
@[simp] theorem rollingEdge_vref (s : State) (c : Channel) : (rollingEdge s c).vref = s.vref := by
  unfold rollingEdge; dsimp only; split <;> simp
@[simp] theorem rollingEdge_slip (s : State) (c : Channel) : (rollingEdge s c).slip = s.slip := by
  unfold rollingEdge; dsimp only; split <;> simp
@[simp] theorem rollingEdge_sampling (s : State) (c : Channel) : (rollingEdge s c).sampling = s.sampling := by
  unfold rollingEdge; dsimp only; split <;> simp
@[simp] theorem rollingEdge_valve (s : State) (c : Channel) : (rollingEdge s c).valve = s.valve := by
  unfold rollingEdge; dsimp only; split <;> simp
@[simp] theorem rollingEdge_exercise (s : State) (c : Channel) : (rollingEdge s c).exercise = s.exercise := by
  unfold rollingEdge; dsimp only; split <;> simp
@[simp] theorem rollingEdge_circuit (s : State) (c : Channel) : (rollingEdge s c).circuit = s.circuit := by
  unfold rollingEdge; dsimp only; split <;> simp
@[simp] theorem rollingEdge_pedalRun (s : State) (c : Channel) : (rollingEdge s c).pedalRun = s.pedalRun := by
  unfold rollingEdge; dsimp only; split <;> simp
@[simp] theorem rollingEdge_trip (s : State) (c : Channel) : (rollingEdge s c).trip = s.trip := by
  unfold rollingEdge; dsimp only; split <;> simp
@[simp] theorem rollingEdge_excerpt (s : State) (c : Channel) : (rollingEdge s c).excerpt = s.excerpt := by
  unfold rollingEdge; dsimp only; split <;> simp
@[simp] theorem rollingEdge_settings (s : State) (c : Channel) : (rollingEdge s c).settings = s.settings := by
  unfold rollingEdge; dsimp only; split <;> simp

/-! `coordinatorEdge` changes no field but port, status, override, coord, park, exercise, table. -/

@[simp] theorem coordinatorEdge_pending (s : State) (c : Channel) : (coordinatorEdge s c).pending = s.pending := by
  unfold coordinatorEdge; (repeat' split) <;> simp
@[simp] theorem coordinatorEdge_draws (s : State) (c : Channel) : (coordinatorEdge s c).draws = s.draws := by
  unfold coordinatorEdge; (repeat' split) <;> simp
@[simp] theorem coordinatorEdge_clock (s : State) (c : Channel) : (coordinatorEdge s c).clock = s.clock := by
  unfold coordinatorEdge; (repeat' split) <;> simp
@[simp] theorem coordinatorEdge_lines (s : State) (c : Channel) : (coordinatorEdge s c).lines = s.lines := by
  unfold coordinatorEdge; (repeat' split) <;> simp
@[simp] theorem coordinatorEdge_door (s : State) (c : Channel) : (coordinatorEdge s c).door = s.door := by
  unfold coordinatorEdge; (repeat' split) <;> simp
@[simp] theorem coordinatorEdge_parkSwitch (s : State) (c : Channel) : (coordinatorEdge s c).parkSwitch = s.parkSwitch := by
  unfold coordinatorEdge; (repeat' split) <;> simp
@[simp] theorem coordinatorEdge_doorOpenMoving (s : State) (c : Channel) : (coordinatorEdge s c).doorOpenMoving = s.doorOpenMoving := by
  unfold coordinatorEdge; (repeat' split) <;> simp
@[simp] theorem coordinatorEdge_pedal (s : State) (c : Channel) : (coordinatorEdge s c).pedal = s.pedal := by
  unfold coordinatorEdge; (repeat' split) <;> simp
@[simp] theorem coordinatorEdge_roster (s : State) (c : Channel) : (coordinatorEdge s c).roster = s.roster := by
  unfold coordinatorEdge; (repeat' split) <;> simp
@[simp] theorem coordinatorEdge_alloc (s : State) (c : Channel) : (coordinatorEdge s c).alloc = s.alloc := by
  unfold coordinatorEdge; (repeat' split) <;> simp
@[simp] theorem coordinatorEdge_wheel (s : State) (c : Channel) : (coordinatorEdge s c).wheel = s.wheel := by
  unfold coordinatorEdge; (repeat' split) <;> simp
@[simp] theorem coordinatorEdge_vref (s : State) (c : Channel) : (coordinatorEdge s c).vref = s.vref := by
  unfold coordinatorEdge; (repeat' split) <;> simp
@[simp] theorem coordinatorEdge_slip (s : State) (c : Channel) : (coordinatorEdge s c).slip = s.slip := by
  unfold coordinatorEdge; (repeat' split) <;> simp
@[simp] theorem coordinatorEdge_sampling (s : State) (c : Channel) : (coordinatorEdge s c).sampling = s.sampling := by
  unfold coordinatorEdge; (repeat' split) <;> simp
@[simp] theorem coordinatorEdge_valve (s : State) (c : Channel) : (coordinatorEdge s c).valve = s.valve := by
  unfold coordinatorEdge; (repeat' split) <;> simp
@[simp] theorem coordinatorEdge_circuit (s : State) (c : Channel) : (coordinatorEdge s c).circuit = s.circuit := by
  unfold coordinatorEdge; (repeat' split) <;> simp
@[simp] theorem coordinatorEdge_pedalRun (s : State) (c : Channel) : (coordinatorEdge s c).pedalRun = s.pedalRun := by
  unfold coordinatorEdge; (repeat' split) <;> simp
@[simp] theorem coordinatorEdge_trip (s : State) (c : Channel) : (coordinatorEdge s c).trip = s.trip := by
  unfold coordinatorEdge; (repeat' split) <;> simp
@[simp] theorem coordinatorEdge_excerpt (s : State) (c : Channel) : (coordinatorEdge s c).excerpt = s.excerpt := by
  unfold coordinatorEdge; (repeat' split) <;> simp
@[simp] theorem coordinatorEdge_settings (s : State) (c : Channel) : (coordinatorEdge s c).settings = s.settings := by
  unfold coordinatorEdge; (repeat' split) <;> simp

/-! `quietExpired` changes no field but port, exercise, coord, table. -/

@[simp] theorem quietExpired_pending (s : State) : (quietExpired s).pending = s.pending := by
  unfold quietExpired; split <;> simp
@[simp] theorem quietExpired_draws (s : State) : (quietExpired s).draws = s.draws := by
  unfold quietExpired; split <;> simp
@[simp] theorem quietExpired_clock (s : State) : (quietExpired s).clock = s.clock := by
  unfold quietExpired; split <;> simp
@[simp] theorem quietExpired_lines (s : State) : (quietExpired s).lines = s.lines := by
  unfold quietExpired; split <;> simp
@[simp] theorem quietExpired_door (s : State) : (quietExpired s).door = s.door := by
  unfold quietExpired; split <;> simp
@[simp] theorem quietExpired_parkSwitch (s : State) : (quietExpired s).parkSwitch = s.parkSwitch := by
  unfold quietExpired; split <;> simp
@[simp] theorem quietExpired_doorOpenMoving (s : State) : (quietExpired s).doorOpenMoving = s.doorOpenMoving := by
  unfold quietExpired; split <;> simp
@[simp] theorem quietExpired_pedal (s : State) : (quietExpired s).pedal = s.pedal := by
  unfold quietExpired; split <;> simp
@[simp] theorem quietExpired_roster (s : State) : (quietExpired s).roster = s.roster := by
  unfold quietExpired; split <;> simp
@[simp] theorem quietExpired_override (s : State) : (quietExpired s).override = s.override := by
  unfold quietExpired; split <;> simp
@[simp] theorem quietExpired_alloc (s : State) : (quietExpired s).alloc = s.alloc := by
  unfold quietExpired; split <;> simp
@[simp] theorem quietExpired_wheel (s : State) : (quietExpired s).wheel = s.wheel := by
  unfold quietExpired; split <;> simp
@[simp] theorem quietExpired_vref (s : State) : (quietExpired s).vref = s.vref := by
  unfold quietExpired; split <;> simp
@[simp] theorem quietExpired_slip (s : State) : (quietExpired s).slip = s.slip := by
  unfold quietExpired; split <;> simp
@[simp] theorem quietExpired_sampling (s : State) : (quietExpired s).sampling = s.sampling := by
  unfold quietExpired; split <;> simp
@[simp] theorem quietExpired_valve (s : State) : (quietExpired s).valve = s.valve := by
  unfold quietExpired; split <;> simp
@[simp] theorem quietExpired_park (s : State) : (quietExpired s).park = s.park := by
  unfold quietExpired; split <;> simp
@[simp] theorem quietExpired_circuit (s : State) : (quietExpired s).circuit = s.circuit := by
  unfold quietExpired; split <;> simp
@[simp] theorem quietExpired_pedalRun (s : State) : (quietExpired s).pedalRun = s.pedalRun := by
  unfold quietExpired; split <;> simp
@[simp] theorem quietExpired_trip (s : State) : (quietExpired s).trip = s.trip := by
  unfold quietExpired; split <;> simp
@[simp] theorem quietExpired_excerpt (s : State) : (quietExpired s).excerpt = s.excerpt := by
  unfold quietExpired; split <;> simp
@[simp] theorem quietExpired_status (s : State) : (quietExpired s).status = s.status := by
  unfold quietExpired; split <;> simp
@[simp] theorem quietExpired_settings (s : State) : (quietExpired s).settings = s.settings := by
  unfold quietExpired; split <;> simp

/-! `coordinatorModes` changes no field but port, exercise, coord, table, park. -/

@[simp] theorem coordinatorModes_pending (s : State) (b : Bool) : (coordinatorModes s b).pending = s.pending := by
  unfold coordinatorModes; split <;> simp
@[simp] theorem coordinatorModes_draws (s : State) (b : Bool) : (coordinatorModes s b).draws = s.draws := by
  unfold coordinatorModes; split <;> simp
@[simp] theorem coordinatorModes_clock (s : State) (b : Bool) : (coordinatorModes s b).clock = s.clock := by
  unfold coordinatorModes; split <;> simp
@[simp] theorem coordinatorModes_lines (s : State) (b : Bool) : (coordinatorModes s b).lines = s.lines := by
  unfold coordinatorModes; split <;> simp
@[simp] theorem coordinatorModes_door (s : State) (b : Bool) : (coordinatorModes s b).door = s.door := by
  unfold coordinatorModes; split <;> simp
@[simp] theorem coordinatorModes_parkSwitch (s : State) (b : Bool) : (coordinatorModes s b).parkSwitch = s.parkSwitch := by
  unfold coordinatorModes; split <;> simp
@[simp] theorem coordinatorModes_doorOpenMoving (s : State) (b : Bool) : (coordinatorModes s b).doorOpenMoving = s.doorOpenMoving := by
  unfold coordinatorModes; split <;> simp
@[simp] theorem coordinatorModes_pedal (s : State) (b : Bool) : (coordinatorModes s b).pedal = s.pedal := by
  unfold coordinatorModes; split <;> simp
@[simp] theorem coordinatorModes_roster (s : State) (b : Bool) : (coordinatorModes s b).roster = s.roster := by
  unfold coordinatorModes; split <;> simp
@[simp] theorem coordinatorModes_override (s : State) (b : Bool) : (coordinatorModes s b).override = s.override := by
  unfold coordinatorModes; split <;> simp
@[simp] theorem coordinatorModes_alloc (s : State) (b : Bool) : (coordinatorModes s b).alloc = s.alloc := by
  unfold coordinatorModes; split <;> simp
@[simp] theorem coordinatorModes_wheel (s : State) (b : Bool) : (coordinatorModes s b).wheel = s.wheel := by
  unfold coordinatorModes; split <;> simp
@[simp] theorem coordinatorModes_vref (s : State) (b : Bool) : (coordinatorModes s b).vref = s.vref := by
  unfold coordinatorModes; split <;> simp
@[simp] theorem coordinatorModes_slip (s : State) (b : Bool) : (coordinatorModes s b).slip = s.slip := by
  unfold coordinatorModes; split <;> simp
@[simp] theorem coordinatorModes_sampling (s : State) (b : Bool) : (coordinatorModes s b).sampling = s.sampling := by
  unfold coordinatorModes; split <;> simp
@[simp] theorem coordinatorModes_valve (s : State) (b : Bool) : (coordinatorModes s b).valve = s.valve := by
  unfold coordinatorModes; split <;> simp
@[simp] theorem coordinatorModes_circuit (s : State) (b : Bool) : (coordinatorModes s b).circuit = s.circuit := by
  unfold coordinatorModes; split <;> simp
@[simp] theorem coordinatorModes_pedalRun (s : State) (b : Bool) : (coordinatorModes s b).pedalRun = s.pedalRun := by
  unfold coordinatorModes; split <;> simp
@[simp] theorem coordinatorModes_trip (s : State) (b : Bool) : (coordinatorModes s b).trip = s.trip := by
  unfold coordinatorModes; split <;> simp
@[simp] theorem coordinatorModes_excerpt (s : State) (b : Bool) : (coordinatorModes s b).excerpt = s.excerpt := by
  unfold coordinatorModes; split <;> simp
@[simp] theorem coordinatorModes_status (s : State) (b : Bool) : (coordinatorModes s b).status = s.status := by
  unfold coordinatorModes; split <;> simp
@[simp] theorem coordinatorModes_settings (s : State) (b : Bool) : (coordinatorModes s b).settings = s.settings := by
  unfold coordinatorModes; split <;> simp

/-! `coordinatorScan` changes no field but port, exercise, coord, table, park. -/

@[simp] theorem coordinatorScan_pending (s : State) : (coordinatorScan s).pending = s.pending := by
  unfold coordinatorScan; (repeat' split) <;> simp
@[simp] theorem coordinatorScan_draws (s : State) : (coordinatorScan s).draws = s.draws := by
  unfold coordinatorScan; (repeat' split) <;> simp
@[simp] theorem coordinatorScan_clock (s : State) : (coordinatorScan s).clock = s.clock := by
  unfold coordinatorScan; (repeat' split) <;> simp
@[simp] theorem coordinatorScan_lines (s : State) : (coordinatorScan s).lines = s.lines := by
  unfold coordinatorScan; (repeat' split) <;> simp
@[simp] theorem coordinatorScan_door (s : State) : (coordinatorScan s).door = s.door := by
  unfold coordinatorScan; (repeat' split) <;> simp
@[simp] theorem coordinatorScan_parkSwitch (s : State) : (coordinatorScan s).parkSwitch = s.parkSwitch := by
  unfold coordinatorScan; (repeat' split) <;> simp
@[simp] theorem coordinatorScan_doorOpenMoving (s : State) : (coordinatorScan s).doorOpenMoving = s.doorOpenMoving := by
  unfold coordinatorScan; (repeat' split) <;> simp
@[simp] theorem coordinatorScan_pedal (s : State) : (coordinatorScan s).pedal = s.pedal := by
  unfold coordinatorScan; (repeat' split) <;> simp
@[simp] theorem coordinatorScan_roster (s : State) : (coordinatorScan s).roster = s.roster := by
  unfold coordinatorScan; (repeat' split) <;> simp
@[simp] theorem coordinatorScan_override (s : State) : (coordinatorScan s).override = s.override := by
  unfold coordinatorScan; (repeat' split) <;> simp
@[simp] theorem coordinatorScan_alloc (s : State) : (coordinatorScan s).alloc = s.alloc := by
  unfold coordinatorScan; (repeat' split) <;> simp
@[simp] theorem coordinatorScan_wheel (s : State) : (coordinatorScan s).wheel = s.wheel := by
  unfold coordinatorScan; (repeat' split) <;> simp
@[simp] theorem coordinatorScan_vref (s : State) : (coordinatorScan s).vref = s.vref := by
  unfold coordinatorScan; (repeat' split) <;> simp
@[simp] theorem coordinatorScan_slip (s : State) : (coordinatorScan s).slip = s.slip := by
  unfold coordinatorScan; (repeat' split) <;> simp
@[simp] theorem coordinatorScan_sampling (s : State) : (coordinatorScan s).sampling = s.sampling := by
  unfold coordinatorScan; (repeat' split) <;> simp
@[simp] theorem coordinatorScan_valve (s : State) : (coordinatorScan s).valve = s.valve := by
  unfold coordinatorScan; (repeat' split) <;> simp
@[simp] theorem coordinatorScan_circuit (s : State) : (coordinatorScan s).circuit = s.circuit := by
  unfold coordinatorScan; (repeat' split) <;> simp
@[simp] theorem coordinatorScan_pedalRun (s : State) : (coordinatorScan s).pedalRun = s.pedalRun := by
  unfold coordinatorScan; (repeat' split) <;> simp
@[simp] theorem coordinatorScan_trip (s : State) : (coordinatorScan s).trip = s.trip := by
  unfold coordinatorScan; (repeat' split) <;> simp
@[simp] theorem coordinatorScan_excerpt (s : State) : (coordinatorScan s).excerpt = s.excerpt := by
  unfold coordinatorScan; (repeat' split) <;> simp
@[simp] theorem coordinatorScan_status (s : State) : (coordinatorScan s).status = s.status := by
  unfold coordinatorScan; (repeat' split) <;> simp
@[simp] theorem coordinatorScan_settings (s : State) : (coordinatorScan s).settings = s.settings := by
  unfold coordinatorScan; (repeat' split) <;> simp

/-! `coordinatorDrive` changes no field but port, exercise, coord, table, park. -/

@[simp] theorem coordinatorDrive_pending (s : State) : (coordinatorDrive s).pending = s.pending := by
  unfold coordinatorDrive; split <;> simp
@[simp] theorem coordinatorDrive_draws (s : State) : (coordinatorDrive s).draws = s.draws := by
  unfold coordinatorDrive; split <;> simp
@[simp] theorem coordinatorDrive_clock (s : State) : (coordinatorDrive s).clock = s.clock := by
  unfold coordinatorDrive; split <;> simp
@[simp] theorem coordinatorDrive_lines (s : State) : (coordinatorDrive s).lines = s.lines := by
  unfold coordinatorDrive; split <;> simp
@[simp] theorem coordinatorDrive_door (s : State) : (coordinatorDrive s).door = s.door := by
  unfold coordinatorDrive; split <;> simp
@[simp] theorem coordinatorDrive_parkSwitch (s : State) : (coordinatorDrive s).parkSwitch = s.parkSwitch := by
  unfold coordinatorDrive; split <;> simp
@[simp] theorem coordinatorDrive_doorOpenMoving (s : State) : (coordinatorDrive s).doorOpenMoving = s.doorOpenMoving := by
  unfold coordinatorDrive; split <;> simp
@[simp] theorem coordinatorDrive_pedal (s : State) : (coordinatorDrive s).pedal = s.pedal := by
  unfold coordinatorDrive; split <;> simp
@[simp] theorem coordinatorDrive_roster (s : State) : (coordinatorDrive s).roster = s.roster := by
  unfold coordinatorDrive; split <;> simp
@[simp] theorem coordinatorDrive_override (s : State) : (coordinatorDrive s).override = s.override := by
  unfold coordinatorDrive; split <;> simp
@[simp] theorem coordinatorDrive_alloc (s : State) : (coordinatorDrive s).alloc = s.alloc := by
  unfold coordinatorDrive; split <;> simp
@[simp] theorem coordinatorDrive_wheel (s : State) : (coordinatorDrive s).wheel = s.wheel := by
  unfold coordinatorDrive; split <;> simp
@[simp] theorem coordinatorDrive_vref (s : State) : (coordinatorDrive s).vref = s.vref := by
  unfold coordinatorDrive; split <;> simp
@[simp] theorem coordinatorDrive_slip (s : State) : (coordinatorDrive s).slip = s.slip := by
  unfold coordinatorDrive; split <;> simp
@[simp] theorem coordinatorDrive_sampling (s : State) : (coordinatorDrive s).sampling = s.sampling := by
  unfold coordinatorDrive; split <;> simp
@[simp] theorem coordinatorDrive_valve (s : State) : (coordinatorDrive s).valve = s.valve := by
  unfold coordinatorDrive; split <;> simp
@[simp] theorem coordinatorDrive_circuit (s : State) : (coordinatorDrive s).circuit = s.circuit := by
  unfold coordinatorDrive; split <;> simp
@[simp] theorem coordinatorDrive_pedalRun (s : State) : (coordinatorDrive s).pedalRun = s.pedalRun := by
  unfold coordinatorDrive; split <;> simp
@[simp] theorem coordinatorDrive_trip (s : State) : (coordinatorDrive s).trip = s.trip := by
  unfold coordinatorDrive; split <;> simp
@[simp] theorem coordinatorDrive_excerpt (s : State) : (coordinatorDrive s).excerpt = s.excerpt := by
  unfold coordinatorDrive; split <;> simp
@[simp] theorem coordinatorDrive_status (s : State) : (coordinatorDrive s).status = s.status := by
  unfold coordinatorDrive; split <;> simp
@[simp] theorem coordinatorDrive_settings (s : State) : (coordinatorDrive s).settings = s.settings := by
  unfold coordinatorDrive; split <;> simp

/-! `applyModes` changes no field but circuit, alloc, slip, valve, port, exercise, coord, table, park. -/

@[simp] theorem applyModes_pending (s : State) (m : CircuitId → Mode) : (applyModes s m).pending = s.pending := by
  unfold applyModes; dsimp only; (repeat' split) <;> simp
@[simp] theorem applyModes_draws (s : State) (m : CircuitId → Mode) : (applyModes s m).draws = s.draws := by
  unfold applyModes; dsimp only; (repeat' split) <;> simp
@[simp] theorem applyModes_clock (s : State) (m : CircuitId → Mode) : (applyModes s m).clock = s.clock := by
  unfold applyModes; dsimp only; (repeat' split) <;> simp
@[simp] theorem applyModes_lines (s : State) (m : CircuitId → Mode) : (applyModes s m).lines = s.lines := by
  unfold applyModes; dsimp only; (repeat' split) <;> simp
@[simp] theorem applyModes_door (s : State) (m : CircuitId → Mode) : (applyModes s m).door = s.door := by
  unfold applyModes; dsimp only; (repeat' split) <;> simp
@[simp] theorem applyModes_parkSwitch (s : State) (m : CircuitId → Mode) : (applyModes s m).parkSwitch = s.parkSwitch := by
  unfold applyModes; dsimp only; (repeat' split) <;> simp
@[simp] theorem applyModes_doorOpenMoving (s : State) (m : CircuitId → Mode) : (applyModes s m).doorOpenMoving = s.doorOpenMoving := by
  unfold applyModes; dsimp only; (repeat' split) <;> simp
@[simp] theorem applyModes_pedal (s : State) (m : CircuitId → Mode) : (applyModes s m).pedal = s.pedal := by
  unfold applyModes; dsimp only; (repeat' split) <;> simp
@[simp] theorem applyModes_roster (s : State) (m : CircuitId → Mode) : (applyModes s m).roster = s.roster := by
  unfold applyModes; dsimp only; (repeat' split) <;> simp
@[simp] theorem applyModes_override (s : State) (m : CircuitId → Mode) : (applyModes s m).override = s.override := by
  unfold applyModes; dsimp only; (repeat' split) <;> simp
@[simp] theorem applyModes_wheel (s : State) (m : CircuitId → Mode) : (applyModes s m).wheel = s.wheel := by
  unfold applyModes; dsimp only; (repeat' split) <;> simp
@[simp] theorem applyModes_vref (s : State) (m : CircuitId → Mode) : (applyModes s m).vref = s.vref := by
  unfold applyModes; dsimp only; (repeat' split) <;> simp
@[simp] theorem applyModes_sampling (s : State) (m : CircuitId → Mode) : (applyModes s m).sampling = s.sampling := by
  unfold applyModes; dsimp only; (repeat' split) <;> simp
@[simp] theorem applyModes_pedalRun (s : State) (m : CircuitId → Mode) : (applyModes s m).pedalRun = s.pedalRun := by
  unfold applyModes; dsimp only; (repeat' split) <;> simp
@[simp] theorem applyModes_trip (s : State) (m : CircuitId → Mode) : (applyModes s m).trip = s.trip := by
  unfold applyModes; dsimp only; (repeat' split) <;> simp
@[simp] theorem applyModes_excerpt (s : State) (m : CircuitId → Mode) : (applyModes s m).excerpt = s.excerpt := by
  unfold applyModes; dsimp only; (repeat' split) <;> simp
@[simp] theorem applyModes_status (s : State) (m : CircuitId → Mode) : (applyModes s m).status = s.status := by
  unfold applyModes; dsimp only; (repeat' split) <;> simp
@[simp] theorem applyModes_settings (s : State) (m : CircuitId → Mode) : (applyModes s m).settings = s.settings := by
  unfold applyModes; dsimp only; (repeat' split) <;> simp

/-! `settleModes` changes no field but circuit, alloc, slip, valve, port, exercise, coord, table, park. -/

@[simp] theorem settleModes_pending (s : State) : (settleModes s).pending = s.pending := by
  simp [settleModes]
@[simp] theorem settleModes_draws (s : State) : (settleModes s).draws = s.draws := by
  simp [settleModes]
@[simp] theorem settleModes_clock (s : State) : (settleModes s).clock = s.clock := by
  simp [settleModes]
@[simp] theorem settleModes_lines (s : State) : (settleModes s).lines = s.lines := by
  simp [settleModes]
@[simp] theorem settleModes_door (s : State) : (settleModes s).door = s.door := by
  simp [settleModes]
@[simp] theorem settleModes_parkSwitch (s : State) : (settleModes s).parkSwitch = s.parkSwitch := by
  simp [settleModes]
@[simp] theorem settleModes_doorOpenMoving (s : State) : (settleModes s).doorOpenMoving = s.doorOpenMoving := by
  simp [settleModes]
@[simp] theorem settleModes_pedal (s : State) : (settleModes s).pedal = s.pedal := by
  simp [settleModes]
@[simp] theorem settleModes_roster (s : State) : (settleModes s).roster = s.roster := by
  simp [settleModes]
@[simp] theorem settleModes_override (s : State) : (settleModes s).override = s.override := by
  simp [settleModes]
@[simp] theorem settleModes_wheel (s : State) : (settleModes s).wheel = s.wheel := by
  simp [settleModes]
@[simp] theorem settleModes_vref (s : State) : (settleModes s).vref = s.vref := by
  simp [settleModes]
@[simp] theorem settleModes_sampling (s : State) : (settleModes s).sampling = s.sampling := by
  simp [settleModes]
@[simp] theorem settleModes_pedalRun (s : State) : (settleModes s).pedalRun = s.pedalRun := by
  simp [settleModes]
@[simp] theorem settleModes_trip (s : State) : (settleModes s).trip = s.trip := by
  simp [settleModes]
@[simp] theorem settleModes_excerpt (s : State) : (settleModes s).excerpt = s.excerpt := by
  simp [settleModes]
@[simp] theorem settleModes_status (s : State) : (settleModes s).status = s.status := by
  simp [settleModes]
@[simp] theorem settleModes_settings (s : State) : (settleModes s).settings = s.settings := by
  simp [settleModes]

/-! `enterTrip` changes no field but circuit, valve, port, exercise, trip. -/

@[simp] theorem enterTrip_pending (s : State) (x : TripSet) : (enterTrip s x).pending = s.pending := by
  simp [enterTrip]
@[simp] theorem enterTrip_draws (s : State) (x : TripSet) : (enterTrip s x).draws = s.draws := by
  simp [enterTrip]
@[simp] theorem enterTrip_clock (s : State) (x : TripSet) : (enterTrip s x).clock = s.clock := by
  simp [enterTrip]
@[simp] theorem enterTrip_lines (s : State) (x : TripSet) : (enterTrip s x).lines = s.lines := by
  simp [enterTrip]
@[simp] theorem enterTrip_door (s : State) (x : TripSet) : (enterTrip s x).door = s.door := by
  simp [enterTrip]
@[simp] theorem enterTrip_parkSwitch (s : State) (x : TripSet) : (enterTrip s x).parkSwitch = s.parkSwitch := by
  simp [enterTrip]
@[simp] theorem enterTrip_doorOpenMoving (s : State) (x : TripSet) : (enterTrip s x).doorOpenMoving = s.doorOpenMoving := by
  simp [enterTrip]
@[simp] theorem enterTrip_pedal (s : State) (x : TripSet) : (enterTrip s x).pedal = s.pedal := by
  simp [enterTrip]
@[simp] theorem enterTrip_roster (s : State) (x : TripSet) : (enterTrip s x).roster = s.roster := by
  simp [enterTrip]
@[simp] theorem enterTrip_table (s : State) (x : TripSet) : (enterTrip s x).table = s.table := by
  simp [enterTrip]
@[simp] theorem enterTrip_override (s : State) (x : TripSet) : (enterTrip s x).override = s.override := by
  simp [enterTrip]
@[simp] theorem enterTrip_alloc (s : State) (x : TripSet) : (enterTrip s x).alloc = s.alloc := by
  simp [enterTrip]
@[simp] theorem enterTrip_wheel (s : State) (x : TripSet) : (enterTrip s x).wheel = s.wheel := by
  simp [enterTrip]
@[simp] theorem enterTrip_vref (s : State) (x : TripSet) : (enterTrip s x).vref = s.vref := by
  simp [enterTrip]
@[simp] theorem enterTrip_slip (s : State) (x : TripSet) : (enterTrip s x).slip = s.slip := by
  simp [enterTrip]
@[simp] theorem enterTrip_sampling (s : State) (x : TripSet) : (enterTrip s x).sampling = s.sampling := by
  simp [enterTrip]
@[simp] theorem enterTrip_park (s : State) (x : TripSet) : (enterTrip s x).park = s.park := by
  simp [enterTrip]
@[simp] theorem enterTrip_pedalRun (s : State) (x : TripSet) : (enterTrip s x).pedalRun = s.pedalRun := by
  simp [enterTrip]
@[simp] theorem enterTrip_coord (s : State) (x : TripSet) : (enterTrip s x).coord = s.coord := by
  simp [enterTrip]
@[simp] theorem enterTrip_excerpt (s : State) (x : TripSet) : (enterTrip s x).excerpt = s.excerpt := by
  simp [enterTrip]
@[simp] theorem enterTrip_status (s : State) (x : TripSet) : (enterTrip s x).status = s.status := by
  simp [enterTrip]
@[simp] theorem enterTrip_settings (s : State) (x : TripSet) : (enterTrip s x).settings = s.settings := by
  simp [enterTrip]

/-! `rise` changes no field but circuit, valve, port, exercise, trip. -/

@[simp] theorem rise_pending (s : State) (x : TripSet) : (rise s x).pending = s.pending := by
  unfold rise; (repeat' split) <;> simp
@[simp] theorem rise_draws (s : State) (x : TripSet) : (rise s x).draws = s.draws := by
  unfold rise; (repeat' split) <;> simp
@[simp] theorem rise_clock (s : State) (x : TripSet) : (rise s x).clock = s.clock := by
  unfold rise; (repeat' split) <;> simp
@[simp] theorem rise_lines (s : State) (x : TripSet) : (rise s x).lines = s.lines := by
  unfold rise; (repeat' split) <;> simp
@[simp] theorem rise_door (s : State) (x : TripSet) : (rise s x).door = s.door := by
  unfold rise; (repeat' split) <;> simp
@[simp] theorem rise_parkSwitch (s : State) (x : TripSet) : (rise s x).parkSwitch = s.parkSwitch := by
  unfold rise; (repeat' split) <;> simp
@[simp] theorem rise_doorOpenMoving (s : State) (x : TripSet) : (rise s x).doorOpenMoving = s.doorOpenMoving := by
  unfold rise; (repeat' split) <;> simp
@[simp] theorem rise_pedal (s : State) (x : TripSet) : (rise s x).pedal = s.pedal := by
  unfold rise; (repeat' split) <;> simp
@[simp] theorem rise_roster (s : State) (x : TripSet) : (rise s x).roster = s.roster := by
  unfold rise; (repeat' split) <;> simp
@[simp] theorem rise_table (s : State) (x : TripSet) : (rise s x).table = s.table := by
  unfold rise; (repeat' split) <;> simp
@[simp] theorem rise_override (s : State) (x : TripSet) : (rise s x).override = s.override := by
  unfold rise; (repeat' split) <;> simp
@[simp] theorem rise_alloc (s : State) (x : TripSet) : (rise s x).alloc = s.alloc := by
  unfold rise; (repeat' split) <;> simp
@[simp] theorem rise_wheel (s : State) (x : TripSet) : (rise s x).wheel = s.wheel := by
  unfold rise; (repeat' split) <;> simp
@[simp] theorem rise_vref (s : State) (x : TripSet) : (rise s x).vref = s.vref := by
  unfold rise; (repeat' split) <;> simp
@[simp] theorem rise_slip (s : State) (x : TripSet) : (rise s x).slip = s.slip := by
  unfold rise; (repeat' split) <;> simp
@[simp] theorem rise_sampling (s : State) (x : TripSet) : (rise s x).sampling = s.sampling := by
  unfold rise; (repeat' split) <;> simp
@[simp] theorem rise_park (s : State) (x : TripSet) : (rise s x).park = s.park := by
  unfold rise; (repeat' split) <;> simp
@[simp] theorem rise_pedalRun (s : State) (x : TripSet) : (rise s x).pedalRun = s.pedalRun := by
  unfold rise; (repeat' split) <;> simp
@[simp] theorem rise_coord (s : State) (x : TripSet) : (rise s x).coord = s.coord := by
  unfold rise; (repeat' split) <;> simp
@[simp] theorem rise_excerpt (s : State) (x : TripSet) : (rise s x).excerpt = s.excerpt := by
  unfold rise; (repeat' split) <;> simp
@[simp] theorem rise_status (s : State) (x : TripSet) : (rise s x).status = s.status := by
  unfold rise; (repeat' split) <;> simp
@[simp] theorem rise_settings (s : State) (x : TripSet) : (rise s x).settings = s.settings := by
  unfold rise; (repeat' split) <;> simp

/-! `setActive` changes no field but circuit, valve, port, exercise, trip. -/

@[simp] theorem setActive_pending (s : State) (x : TripSet) : (setActive s x).pending = s.pending := by
  simp [setActive]
@[simp] theorem setActive_draws (s : State) (x : TripSet) : (setActive s x).draws = s.draws := by
  simp [setActive]
@[simp] theorem setActive_clock (s : State) (x : TripSet) : (setActive s x).clock = s.clock := by
  simp [setActive]
@[simp] theorem setActive_lines (s : State) (x : TripSet) : (setActive s x).lines = s.lines := by
  simp [setActive]
@[simp] theorem setActive_door (s : State) (x : TripSet) : (setActive s x).door = s.door := by
  simp [setActive]
@[simp] theorem setActive_parkSwitch (s : State) (x : TripSet) : (setActive s x).parkSwitch = s.parkSwitch := by
  simp [setActive]
@[simp] theorem setActive_doorOpenMoving (s : State) (x : TripSet) : (setActive s x).doorOpenMoving = s.doorOpenMoving := by
  simp [setActive]
@[simp] theorem setActive_pedal (s : State) (x : TripSet) : (setActive s x).pedal = s.pedal := by
  simp [setActive]
@[simp] theorem setActive_roster (s : State) (x : TripSet) : (setActive s x).roster = s.roster := by
  simp [setActive]
@[simp] theorem setActive_table (s : State) (x : TripSet) : (setActive s x).table = s.table := by
  simp [setActive]
@[simp] theorem setActive_override (s : State) (x : TripSet) : (setActive s x).override = s.override := by
  simp [setActive]
@[simp] theorem setActive_alloc (s : State) (x : TripSet) : (setActive s x).alloc = s.alloc := by
  simp [setActive]
@[simp] theorem setActive_wheel (s : State) (x : TripSet) : (setActive s x).wheel = s.wheel := by
  simp [setActive]
@[simp] theorem setActive_vref (s : State) (x : TripSet) : (setActive s x).vref = s.vref := by
  simp [setActive]
@[simp] theorem setActive_slip (s : State) (x : TripSet) : (setActive s x).slip = s.slip := by
  simp [setActive]
@[simp] theorem setActive_sampling (s : State) (x : TripSet) : (setActive s x).sampling = s.sampling := by
  simp [setActive]
@[simp] theorem setActive_park (s : State) (x : TripSet) : (setActive s x).park = s.park := by
  simp [setActive]
@[simp] theorem setActive_pedalRun (s : State) (x : TripSet) : (setActive s x).pedalRun = s.pedalRun := by
  simp [setActive]
@[simp] theorem setActive_coord (s : State) (x : TripSet) : (setActive s x).coord = s.coord := by
  simp [setActive]
@[simp] theorem setActive_excerpt (s : State) (x : TripSet) : (setActive s x).excerpt = s.excerpt := by
  simp [setActive]
@[simp] theorem setActive_status (s : State) (x : TripSet) : (setActive s x).status = s.status := by
  simp [setActive]
@[simp] theorem setActive_settings (s : State) (x : TripSet) : (setActive s x).settings = s.settings := by
  simp [setActive]

/-! `completeSecuring` changes no field but circuit, alloc, slip, valve, port, exercise, coord, table, park, sampling, trip, status. -/

@[simp] theorem completeSecuring_pending (s : State) : (completeSecuring s).pending = s.pending := by
  simp [completeSecuring]
@[simp] theorem completeSecuring_draws (s : State) : (completeSecuring s).draws = s.draws := by
  simp [completeSecuring]
@[simp] theorem completeSecuring_clock (s : State) : (completeSecuring s).clock = s.clock := by
  simp [completeSecuring]
@[simp] theorem completeSecuring_lines (s : State) : (completeSecuring s).lines = s.lines := by
  simp [completeSecuring]
@[simp] theorem completeSecuring_door (s : State) : (completeSecuring s).door = s.door := by
  simp [completeSecuring]
@[simp] theorem completeSecuring_parkSwitch (s : State) : (completeSecuring s).parkSwitch = s.parkSwitch := by
  simp [completeSecuring]
@[simp] theorem completeSecuring_doorOpenMoving (s : State) : (completeSecuring s).doorOpenMoving = s.doorOpenMoving := by
  simp [completeSecuring]
@[simp] theorem completeSecuring_pedal (s : State) : (completeSecuring s).pedal = s.pedal := by
  simp [completeSecuring]
@[simp] theorem completeSecuring_roster (s : State) : (completeSecuring s).roster = s.roster := by
  simp [completeSecuring]
@[simp] theorem completeSecuring_override (s : State) : (completeSecuring s).override = s.override := by
  simp [completeSecuring]
@[simp] theorem completeSecuring_wheel (s : State) : (completeSecuring s).wheel = s.wheel := by
  simp [completeSecuring]
@[simp] theorem completeSecuring_vref (s : State) : (completeSecuring s).vref = s.vref := by
  simp [completeSecuring]
@[simp] theorem completeSecuring_pedalRun (s : State) : (completeSecuring s).pedalRun = s.pedalRun := by
  simp [completeSecuring]
@[simp] theorem completeSecuring_excerpt (s : State) : (completeSecuring s).excerpt = s.excerpt := by
  simp [completeSecuring]
@[simp] theorem completeSecuring_settings (s : State) : (completeSecuring s).settings = s.settings := by
  simp [completeSecuring]

/-! `beginSecuring` changes no field but port, exercise, coord, table, park, doorOpenMoving. -/

@[simp] theorem beginSecuring_pending (s : State) : (beginSecuring s).pending = s.pending := by
  unfold beginSecuring; dsimp only; (repeat' split) <;> simp
@[simp] theorem beginSecuring_draws (s : State) : (beginSecuring s).draws = s.draws := by
  unfold beginSecuring; dsimp only; (repeat' split) <;> simp
@[simp] theorem beginSecuring_clock (s : State) : (beginSecuring s).clock = s.clock := by
  unfold beginSecuring; dsimp only; (repeat' split) <;> simp
@[simp] theorem beginSecuring_lines (s : State) : (beginSecuring s).lines = s.lines := by
  unfold beginSecuring; dsimp only; (repeat' split) <;> simp
@[simp] theorem beginSecuring_door (s : State) : (beginSecuring s).door = s.door := by
  unfold beginSecuring; dsimp only; (repeat' split) <;> simp
@[simp] theorem beginSecuring_parkSwitch (s : State) : (beginSecuring s).parkSwitch = s.parkSwitch := by
  unfold beginSecuring; dsimp only; (repeat' split) <;> simp
@[simp] theorem beginSecuring_pedal (s : State) : (beginSecuring s).pedal = s.pedal := by
  unfold beginSecuring; dsimp only; (repeat' split) <;> simp
@[simp] theorem beginSecuring_roster (s : State) : (beginSecuring s).roster = s.roster := by
  unfold beginSecuring; dsimp only; (repeat' split) <;> simp
@[simp] theorem beginSecuring_override (s : State) : (beginSecuring s).override = s.override := by
  unfold beginSecuring; dsimp only; (repeat' split) <;> simp
@[simp] theorem beginSecuring_alloc (s : State) : (beginSecuring s).alloc = s.alloc := by
  unfold beginSecuring; dsimp only; (repeat' split) <;> simp
@[simp] theorem beginSecuring_wheel (s : State) : (beginSecuring s).wheel = s.wheel := by
  unfold beginSecuring; dsimp only; (repeat' split) <;> simp
@[simp] theorem beginSecuring_vref (s : State) : (beginSecuring s).vref = s.vref := by
  unfold beginSecuring; dsimp only; (repeat' split) <;> simp
@[simp] theorem beginSecuring_slip (s : State) : (beginSecuring s).slip = s.slip := by
  unfold beginSecuring; dsimp only; (repeat' split) <;> simp
@[simp] theorem beginSecuring_sampling (s : State) : (beginSecuring s).sampling = s.sampling := by
  unfold beginSecuring; dsimp only; (repeat' split) <;> simp
@[simp] theorem beginSecuring_valve (s : State) : (beginSecuring s).valve = s.valve := by
  unfold beginSecuring; dsimp only; (repeat' split) <;> simp
@[simp] theorem beginSecuring_circuit (s : State) : (beginSecuring s).circuit = s.circuit := by
  unfold beginSecuring; dsimp only; (repeat' split) <;> simp
@[simp] theorem beginSecuring_pedalRun (s : State) : (beginSecuring s).pedalRun = s.pedalRun := by
  unfold beginSecuring; dsimp only; (repeat' split) <;> simp
@[simp] theorem beginSecuring_trip (s : State) : (beginSecuring s).trip = s.trip := by
  unfold beginSecuring; dsimp only; (repeat' split) <;> simp
@[simp] theorem beginSecuring_excerpt (s : State) : (beginSecuring s).excerpt = s.excerpt := by
  unfold beginSecuring; dsimp only; (repeat' split) <;> simp
@[simp] theorem beginSecuring_status (s : State) : (beginSecuring s).status = s.status := by
  unfold beginSecuring; dsimp only; (repeat' split) <;> simp
@[simp] theorem beginSecuring_settings (s : State) : (beginSecuring s).settings = s.settings := by
  unfold beginSecuring; dsimp only; (repeat' split) <;> simp

/-! `enterSecuring` changes no field but circuit, alloc, slip, valve, port, exercise, coord, table, park, sampling, trip, status, doorOpenMoving. -/

@[simp] theorem enterSecuring_pending (s : State) : (enterSecuring s).pending = s.pending := by
  unfold enterSecuring; dsimp only; split <;> simp
@[simp] theorem enterSecuring_draws (s : State) : (enterSecuring s).draws = s.draws := by
  unfold enterSecuring; dsimp only; split <;> simp
@[simp] theorem enterSecuring_clock (s : State) : (enterSecuring s).clock = s.clock := by
  unfold enterSecuring; dsimp only; split <;> simp
@[simp] theorem enterSecuring_lines (s : State) : (enterSecuring s).lines = s.lines := by
  unfold enterSecuring; dsimp only; split <;> simp
@[simp] theorem enterSecuring_door (s : State) : (enterSecuring s).door = s.door := by
  unfold enterSecuring; dsimp only; split <;> simp
@[simp] theorem enterSecuring_parkSwitch (s : State) : (enterSecuring s).parkSwitch = s.parkSwitch := by
  unfold enterSecuring; dsimp only; split <;> simp
@[simp] theorem enterSecuring_pedal (s : State) : (enterSecuring s).pedal = s.pedal := by
  unfold enterSecuring; dsimp only; split <;> simp
@[simp] theorem enterSecuring_roster (s : State) : (enterSecuring s).roster = s.roster := by
  unfold enterSecuring; dsimp only; split <;> simp
@[simp] theorem enterSecuring_override (s : State) : (enterSecuring s).override = s.override := by
  unfold enterSecuring; dsimp only; split <;> simp
@[simp] theorem enterSecuring_wheel (s : State) : (enterSecuring s).wheel = s.wheel := by
  unfold enterSecuring; dsimp only; split <;> simp
@[simp] theorem enterSecuring_vref (s : State) : (enterSecuring s).vref = s.vref := by
  unfold enterSecuring; dsimp only; split <;> simp
@[simp] theorem enterSecuring_pedalRun (s : State) : (enterSecuring s).pedalRun = s.pedalRun := by
  unfold enterSecuring; dsimp only; split <;> simp
@[simp] theorem enterSecuring_excerpt (s : State) : (enterSecuring s).excerpt = s.excerpt := by
  unfold enterSecuring; dsimp only; split <;> simp
@[simp] theorem enterSecuring_settings (s : State) : (enterSecuring s).settings = s.settings := by
  unfold enterSecuring; dsimp only; split <;> simp

/-! `coordinatorSpeed` changes no field but circuit, alloc, slip, valve, port, exercise, coord, table, park, sampling, trip, status, doorOpenMoving. -/

@[simp] theorem coordinatorSpeed_pending (s : State) (v : Nat) : (coordinatorSpeed s v).pending = s.pending := by
  unfold coordinatorSpeed; split <;> simp
@[simp] theorem coordinatorSpeed_draws (s : State) (v : Nat) : (coordinatorSpeed s v).draws = s.draws := by
  unfold coordinatorSpeed; split <;> simp
@[simp] theorem coordinatorSpeed_clock (s : State) (v : Nat) : (coordinatorSpeed s v).clock = s.clock := by
  unfold coordinatorSpeed; split <;> simp
@[simp] theorem coordinatorSpeed_lines (s : State) (v : Nat) : (coordinatorSpeed s v).lines = s.lines := by
  unfold coordinatorSpeed; split <;> simp
@[simp] theorem coordinatorSpeed_door (s : State) (v : Nat) : (coordinatorSpeed s v).door = s.door := by
  unfold coordinatorSpeed; split <;> simp
@[simp] theorem coordinatorSpeed_parkSwitch (s : State) (v : Nat) : (coordinatorSpeed s v).parkSwitch = s.parkSwitch := by
  unfold coordinatorSpeed; split <;> simp
@[simp] theorem coordinatorSpeed_pedal (s : State) (v : Nat) : (coordinatorSpeed s v).pedal = s.pedal := by
  unfold coordinatorSpeed; split <;> simp
@[simp] theorem coordinatorSpeed_roster (s : State) (v : Nat) : (coordinatorSpeed s v).roster = s.roster := by
  unfold coordinatorSpeed; split <;> simp
@[simp] theorem coordinatorSpeed_override (s : State) (v : Nat) : (coordinatorSpeed s v).override = s.override := by
  unfold coordinatorSpeed; split <;> simp
@[simp] theorem coordinatorSpeed_wheel (s : State) (v : Nat) : (coordinatorSpeed s v).wheel = s.wheel := by
  unfold coordinatorSpeed; split <;> simp
@[simp] theorem coordinatorSpeed_vref (s : State) (v : Nat) : (coordinatorSpeed s v).vref = s.vref := by
  unfold coordinatorSpeed; split <;> simp
@[simp] theorem coordinatorSpeed_pedalRun (s : State) (v : Nat) : (coordinatorSpeed s v).pedalRun = s.pedalRun := by
  unfold coordinatorSpeed; split <;> simp
@[simp] theorem coordinatorSpeed_excerpt (s : State) (v : Nat) : (coordinatorSpeed s v).excerpt = s.excerpt := by
  unfold coordinatorSpeed; split <;> simp
@[simp] theorem coordinatorSpeed_settings (s : State) (v : Nat) : (coordinatorSpeed s v).settings = s.settings := by
  unfold coordinatorSpeed; split <;> simp

/-! `exerciseSpeed` changes no field but port, exercise. -/

@[simp] theorem exerciseSpeed_pending (s : State) : (exerciseSpeed s).pending = s.pending := by
  unfold exerciseSpeed; split <;> simp
@[simp] theorem exerciseSpeed_draws (s : State) : (exerciseSpeed s).draws = s.draws := by
  unfold exerciseSpeed; split <;> simp
@[simp] theorem exerciseSpeed_clock (s : State) : (exerciseSpeed s).clock = s.clock := by
  unfold exerciseSpeed; split <;> simp
@[simp] theorem exerciseSpeed_lines (s : State) : (exerciseSpeed s).lines = s.lines := by
  unfold exerciseSpeed; split <;> simp
@[simp] theorem exerciseSpeed_door (s : State) : (exerciseSpeed s).door = s.door := by
  unfold exerciseSpeed; split <;> simp
@[simp] theorem exerciseSpeed_parkSwitch (s : State) : (exerciseSpeed s).parkSwitch = s.parkSwitch := by
  unfold exerciseSpeed; split <;> simp
@[simp] theorem exerciseSpeed_doorOpenMoving (s : State) : (exerciseSpeed s).doorOpenMoving = s.doorOpenMoving := by
  unfold exerciseSpeed; split <;> simp
@[simp] theorem exerciseSpeed_pedal (s : State) : (exerciseSpeed s).pedal = s.pedal := by
  unfold exerciseSpeed; split <;> simp
@[simp] theorem exerciseSpeed_roster (s : State) : (exerciseSpeed s).roster = s.roster := by
  unfold exerciseSpeed; split <;> simp
@[simp] theorem exerciseSpeed_table (s : State) : (exerciseSpeed s).table = s.table := by
  unfold exerciseSpeed; split <;> simp
@[simp] theorem exerciseSpeed_override (s : State) : (exerciseSpeed s).override = s.override := by
  unfold exerciseSpeed; split <;> simp
@[simp] theorem exerciseSpeed_alloc (s : State) : (exerciseSpeed s).alloc = s.alloc := by
  unfold exerciseSpeed; split <;> simp
@[simp] theorem exerciseSpeed_wheel (s : State) : (exerciseSpeed s).wheel = s.wheel := by
  unfold exerciseSpeed; split <;> simp
@[simp] theorem exerciseSpeed_vref (s : State) : (exerciseSpeed s).vref = s.vref := by
  unfold exerciseSpeed; split <;> simp
@[simp] theorem exerciseSpeed_slip (s : State) : (exerciseSpeed s).slip = s.slip := by
  unfold exerciseSpeed; split <;> simp
@[simp] theorem exerciseSpeed_sampling (s : State) : (exerciseSpeed s).sampling = s.sampling := by
  unfold exerciseSpeed; split <;> simp
@[simp] theorem exerciseSpeed_valve (s : State) : (exerciseSpeed s).valve = s.valve := by
  unfold exerciseSpeed; split <;> simp
@[simp] theorem exerciseSpeed_park (s : State) : (exerciseSpeed s).park = s.park := by
  unfold exerciseSpeed; split <;> simp
@[simp] theorem exerciseSpeed_circuit (s : State) : (exerciseSpeed s).circuit = s.circuit := by
  unfold exerciseSpeed; split <;> simp
@[simp] theorem exerciseSpeed_pedalRun (s : State) : (exerciseSpeed s).pedalRun = s.pedalRun := by
  unfold exerciseSpeed; split <;> simp
@[simp] theorem exerciseSpeed_trip (s : State) : (exerciseSpeed s).trip = s.trip := by
  unfold exerciseSpeed; split <;> simp
@[simp] theorem exerciseSpeed_coord (s : State) : (exerciseSpeed s).coord = s.coord := by
  unfold exerciseSpeed; split <;> simp
@[simp] theorem exerciseSpeed_excerpt (s : State) : (exerciseSpeed s).excerpt = s.excerpt := by
  unfold exerciseSpeed; split <;> simp
@[simp] theorem exerciseSpeed_status (s : State) : (exerciseSpeed s).status = s.status := by
  unfold exerciseSpeed; split <;> simp
@[simp] theorem exerciseSpeed_settings (s : State) : (exerciseSpeed s).settings = s.settings := by
  unfold exerciseSpeed; split <;> simp

/-! `setReference` changes no field but circuit, alloc, slip, valve, port, exercise, coord, table, park, sampling, trip, status, doorOpenMoving, override, vref. -/

@[simp] theorem setReference_pending (s : State) (v : Nat) : (setReference s v).pending = s.pending := by
  unfold setReference; split <;> simp
@[simp] theorem setReference_draws (s : State) (v : Nat) : (setReference s v).draws = s.draws := by
  unfold setReference; split <;> simp
@[simp] theorem setReference_clock (s : State) (v : Nat) : (setReference s v).clock = s.clock := by
  unfold setReference; split <;> simp
@[simp] theorem setReference_lines (s : State) (v : Nat) : (setReference s v).lines = s.lines := by
  unfold setReference; split <;> simp
@[simp] theorem setReference_door (s : State) (v : Nat) : (setReference s v).door = s.door := by
  unfold setReference; split <;> simp
@[simp] theorem setReference_parkSwitch (s : State) (v : Nat) : (setReference s v).parkSwitch = s.parkSwitch := by
  unfold setReference; split <;> simp
@[simp] theorem setReference_pedal (s : State) (v : Nat) : (setReference s v).pedal = s.pedal := by
  unfold setReference; split <;> simp
@[simp] theorem setReference_roster (s : State) (v : Nat) : (setReference s v).roster = s.roster := by
  unfold setReference; split <;> simp
@[simp] theorem setReference_wheel (s : State) (v : Nat) : (setReference s v).wheel = s.wheel := by
  unfold setReference; split <;> simp
@[simp] theorem setReference_pedalRun (s : State) (v : Nat) : (setReference s v).pedalRun = s.pedalRun := by
  unfold setReference; split <;> simp
@[simp] theorem setReference_excerpt (s : State) (v : Nat) : (setReference s v).excerpt = s.excerpt := by
  unfold setReference; split <;> simp
@[simp] theorem setReference_settings (s : State) (v : Nat) : (setReference s v).settings = s.settings := by
  unfold setReference; split <;> simp

/-! `setWheel` changes no field but circuit, alloc, slip, valve, port, exercise, coord, table, park, sampling, trip, status, doorOpenMoving, override, vref, wheel. -/

@[simp] theorem setWheel_pending (s : State) (c : Channel) (w : Wheel) : (setWheel s c w).pending = s.pending := by
  simp [setWheel]
@[simp] theorem setWheel_draws (s : State) (c : Channel) (w : Wheel) : (setWheel s c w).draws = s.draws := by
  simp [setWheel]
@[simp] theorem setWheel_clock (s : State) (c : Channel) (w : Wheel) : (setWheel s c w).clock = s.clock := by
  simp [setWheel]
@[simp] theorem setWheel_lines (s : State) (c : Channel) (w : Wheel) : (setWheel s c w).lines = s.lines := by
  simp [setWheel]
@[simp] theorem setWheel_door (s : State) (c : Channel) (w : Wheel) : (setWheel s c w).door = s.door := by
  simp [setWheel]
@[simp] theorem setWheel_parkSwitch (s : State) (c : Channel) (w : Wheel) : (setWheel s c w).parkSwitch = s.parkSwitch := by
  simp [setWheel]
@[simp] theorem setWheel_pedal (s : State) (c : Channel) (w : Wheel) : (setWheel s c w).pedal = s.pedal := by
  simp [setWheel]
@[simp] theorem setWheel_roster (s : State) (c : Channel) (w : Wheel) : (setWheel s c w).roster = s.roster := by
  simp [setWheel]
@[simp] theorem setWheel_pedalRun (s : State) (c : Channel) (w : Wheel) : (setWheel s c w).pedalRun = s.pedalRun := by
  simp [setWheel]
@[simp] theorem setWheel_excerpt (s : State) (c : Channel) (w : Wheel) : (setWheel s c w).excerpt = s.excerpt := by
  simp [setWheel]
@[simp] theorem setWheel_settings (s : State) (c : Channel) (w : Wheel) : (setWheel s c w).settings = s.settings := by
  simp [setWheel]

/-! `reportApplied` changes no field but circuit, alloc, slip, valve, port, exercise, coord, table, park, sampling, trip, status. -/

@[simp] theorem reportApplied_pending (s : State) : (reportApplied s).pending = s.pending := by
  unfold reportApplied; split <;> simp
@[simp] theorem reportApplied_draws (s : State) : (reportApplied s).draws = s.draws := by
  unfold reportApplied; split <;> simp
@[simp] theorem reportApplied_clock (s : State) : (reportApplied s).clock = s.clock := by
  unfold reportApplied; split <;> simp
@[simp] theorem reportApplied_lines (s : State) : (reportApplied s).lines = s.lines := by
  unfold reportApplied; split <;> simp
@[simp] theorem reportApplied_door (s : State) : (reportApplied s).door = s.door := by
  unfold reportApplied; split <;> simp
@[simp] theorem reportApplied_parkSwitch (s : State) : (reportApplied s).parkSwitch = s.parkSwitch := by
  unfold reportApplied; split <;> simp
@[simp] theorem reportApplied_doorOpenMoving (s : State) : (reportApplied s).doorOpenMoving = s.doorOpenMoving := by
  unfold reportApplied; split <;> simp
@[simp] theorem reportApplied_pedal (s : State) : (reportApplied s).pedal = s.pedal := by
  unfold reportApplied; split <;> simp
@[simp] theorem reportApplied_roster (s : State) : (reportApplied s).roster = s.roster := by
  unfold reportApplied; split <;> simp
@[simp] theorem reportApplied_override (s : State) : (reportApplied s).override = s.override := by
  unfold reportApplied; split <;> simp
@[simp] theorem reportApplied_wheel (s : State) : (reportApplied s).wheel = s.wheel := by
  unfold reportApplied; split <;> simp
@[simp] theorem reportApplied_vref (s : State) : (reportApplied s).vref = s.vref := by
  unfold reportApplied; split <;> simp
@[simp] theorem reportApplied_pedalRun (s : State) : (reportApplied s).pedalRun = s.pedalRun := by
  unfold reportApplied; split <;> simp
@[simp] theorem reportApplied_excerpt (s : State) : (reportApplied s).excerpt = s.excerpt := by
  unfold reportApplied; split <;> simp
@[simp] theorem reportApplied_settings (s : State) : (reportApplied s).settings = s.settings := by
  unfold reportApplied; split <;> simp

end Sys2Proof.Machine
end

