-- ==== Sys2Proof/Laws/Vectors.lean ====
section
/-!
SUPPORT. What put, alter and mapAll do, item by item; timers; and the small facts about slots the table operations rest
on.
-/

namespace Sys2Proof.Machine

variable {α β : Type} {n : Nat}

@[simp] theorem put_same (v : Vector α n) (i : Fin n) (x : α) : (put v i x)[i.val] = x := by
  simp [put]

theorem put_other (v : Vector α n) (i j : Fin n) (x : α) (h : i ≠ j) : (put v i x)[j.val] = v[j.val] := by
  have : i.val ≠ j.val := fun e => h (Fin.ext e)
  simp [put, this]

theorem put_get (v : Vector α n) (i j : Fin n) (x : α) : (put v i x)[j.val] = if i = j then x else v[j.val] := by
  by_cases h : i = j
  · subst h; rw [if_pos rfl, put_same]
  · rw [if_neg h, put_other v i j x h]

@[simp] theorem alter_same (v : Vector α n) (i : Fin n) (f : α → α) : (alter v i f)[i.val] = f v[i.val] := by
  simp [alter]

theorem alter_other (v : Vector α n) (i j : Fin n) (f : α → α) (h : i ≠ j) : (alter v i f)[j.val] = v[j.val] :=
  put_other v i j _ h

@[simp] theorem mapAll_get (v : Vector α n) (f : Fin n → α → β) (i : Fin n) : (mapAll v f)[i.val] = f i v[i.val] := by
  simp [mapAll]

/-- A timer that is not running is not due. -/
@[simp] theorem due_none (now : Nat) : due none now = false := rfl

/-- A running timer is due from its expiry time on. -/
@[simp] theorem due_some (t now : Nat) : due (some t) now = decide (t ≤ now) := rfl

/-- A lowest vacant slot found is one of the slots asked for and is vacant (R3). -/
theorem firstVacant_spec {t : Table} {slots : List Slot} {i : Slot} (h : firstVacant t slots = some i) :
    i ∈ slots ∧ t[i] = none := by
  refine ⟨List.mem_of_find?_eq_some h, ?_⟩
  have := List.find?_some h
  simpa [Option.isNone_iff_eq_none] using this

/-- The entry found under a key stands in its slot with that key (R2). -/
theorem findEntry_spec {t : Table} {src : Source} {cls : DemandClass} {i : Slot} {e : Entry}
    (h : findEntry t src cls = some (i, e)) : t[i] = some e ∧ e.source = src ∧ e.cls = cls := by
  obtain ⟨j, -, hj⟩ := List.exists_of_findSome?_eq_some h
  cases hx : t[j] with
  | none => simp [hx] at hj
  | some x =>
    simp only [hx] at hj
    split at hj
    · rename_i hk
      simp only [Option.some.injEq, Prod.mk.injEq] at hj
      obtain ⟨rfl, rfl⟩ := hj
      simp only [Entry.hasKey, Bool.and_eq_true, decide_eq_true_eq] at hk
      exact ⟨hx, hk.1, hk.2⟩
    · cases hj

end Sys2Proof.Machine
end

