-- ==== Sys2Proof/Laws/Ops.lean ====
section
/-!
SUPPORT. What each shared operation can do, said once: the port's queue, the table's change of PARK entries, the park
valve, slew, pulses.
-/

namespace Sys2Proof.Machine

/-- A pushed answer joins the end of a queue with room while ONLINE, and else leaves the queue (R42, R45). -/
theorem Port.push_answers (p : Port) (f : Frame) (r : Bool) :
    (p.push f r).answers = p.answers ++ [{ frame := f, restart := r }] ∨ (p.push f r).answers = p.answers := by
  unfold Port.push
  dsimp only
  split
  · exact .inl rfl
  · exact .inr rfl

/-- A push never makes a queue longer than 8 (R42). -/
theorem Port.push_bound (p : Port) (f : Frame) (r : Bool) (h : p.answers.length ≤ 8) :
    (p.push f r).answers.length ≤ 8 := by
  unfold Port.push
  dsimp only
  split
  · rename_i hc
    simp only [Bool.and_eq_true, decide_eq_true_eq] at hc
    simp; omega
  · exact h

/-- The new table is in force whatever it does to park wanted. -/
@[simp] theorem putTable_table (s : State) (t : Table) : (putTable s t).table = t := by
  unfold putTable; dsimp only; split
  · rfl
  · split
    · unfold parkCeases; dsimp only; split
      · unfold evaluateRelease; (repeat' split) <;> rfl
      · rfl
    · rfl

/-- A new table that does not change whether a PARK entry stands changes nothing else (R19). -/
theorem putTable_same (s : State) (t : Table) (h : anyPark t = anyPark s.table) :
    putTable s t = { s with table := t } := by
  unfold putTable; cases hp : anyPark s.table <;> simp [h, hp]

/-- The first PARK entry makes park wanted at the same event (R19, R138). -/
theorem putTable_wanted (s : State) (t : Table) (h : anyPark t = true) (h0 : anyPark s.table = false) :
    putTable s t = parkBecomesWanted { s with table := t } := by
  unfold putTable; simp [h, h0]

/-- A joined spring-cycle list has at most 16 entries (R181). -/
theorem joinCycles_bound (l : List Ms) (t : Ms) (h : l.length ≤ 16) : (joinCycles l t).length ≤ 16 := by
  unfold joinCycles; split <;> simp <;> omega

/-- What an evaluation of release does (R140, R141): nothing where it is not evaluated, a release attempt, or
RELEASE_WITHHELD. -/
theorem evaluateRelease_cases (s : State) :
    (s.park.canRelease = false ∧ evaluateRelease s = s) ∨
    (s.park.canRelease = true ∧ releaseConditions s = true ∧
      evaluateRelease s = { s with park := s.park.startRelease s.clock.us, coord := s.coord.releaseStarted s.clock.ms }) ∨
    (s.park.canRelease = true ∧ releaseConditions s = false ∧
      evaluateRelease s =
        { s with park := { s.park with withheld := true }
                 coord := s.coord.withheldSet (s.clock.us + sec s.settings.params.withheldLimit) }) := by
  unfold evaluateRelease
  cases h : s.park.canRelease <;> cases h2 : releaseConditions s <;> simp

/-- A formed pulse lasts at least 2 ms, lies inside the period, and follows the other valve by the gap (R136). -/
theorem formPulse_spec {last : Option LastPulse} {v : Valve} {on now gap m : Nat} {p : Pulse}
    (h : formPulse last v on now gap m = some p) :
    p.valve = v ∧ p.start = pulseStart last v now gap ∧ p.start + 2000 ≤ p.stop ∧ p.stop ≤ now + msec m := by
  unfold formPulse at h
  dsimp only at h
  split at h
  · cases h
  · cases h
    simp only [true_and]
    omega

/-- A pulse starts no earlier than the period (R136). -/
theorem pulseStart_ge (last : Option LastPulse) (v : Valve) (now gap : Nat) : now ≤ pulseStart last v now gap := by
  unfold pulseStart; split
  · split <;> omega
  · exact Nat.le_refl _

/-- All that the end of a pulse can do: nothing is running or its end is not to be taken here, and the channel stands; or
the pulse ends, and one that waits begins if its start has come (R137). -/
theorem ChannelDrive.finish_cases (d : ChannelDrive) (now boundary : Nat) :
    (d.finish now boundary = d ∧ ∀ p, d.running = some p → now < p.stop ∨ p.stop = boundary) ∨
    (∃ p, d.running = some p ∧ p.stop ≤ now ∧ p.stop ≠ boundary ∧
      d.finish now boundary = ({ d with running := none } : ChannelDrive).begin now) := by
  unfold ChannelDrive.finish
  cases h : d.running with
  | none => exact .inl ⟨rfl, by simp⟩
  | some p =>
    by_cases h1 : p.stop ≤ now <;> by_cases h2 : p.stop = boundary <;> simp [h1, h2]
    omega

/-- All that a period start does to a pulse in progress: the channel stands, or a pulse whose end has come is over because
no pulse of its valve begins there (R137). -/
theorem ChannelDrive.cross_cases (d : ChannelDrive) (now : Nat) :
    (d.cross now = d ∧ ∀ p, d.running = some p → now < p.stop ∨ d.continues now = true) ∨
    (∃ p, d.running = some p ∧ p.stop ≤ now ∧ d.continues now = false ∧ d.cross now = { d with running := none }) := by
  unfold ChannelDrive.cross
  cases h : d.running with
  | none => exact .inl ⟨rfl, by simp⟩
  | some p =>
    by_cases h1 : p.stop ≤ now <;> cases h2 : d.continues now <;> simp [h1]
    omega

/-- The waiting pulse keeps the valve of the running one energised just where both are of one valve and its start has come
(R137). -/
theorem ChannelDrive.continues_iff (d : ChannelDrive) (now : Nat) :
    d.continues now = true ↔
      ∃ p q, d.running = some p ∧ d.waiting = some q ∧ q.valve = p.valve ∧ q.start ≤ now := by
  unfold ChannelDrive.continues
  cases d.running <;> cases d.waiting <;> simp

/-- A slewed target never passes the demand (R80). -/
theorem slewed_between (p : Params) (b : Bool) (previous demand : Nat) :
    min previous demand ≤ slewed p b previous demand ∧ slewed p b previous demand ≤ max previous demand := by
  unfold slewed; split
  · split <;> omega
  · omega

/-- The blend of an entry stays within 0 to 64 at the advance (R18). -/
theorem Entry.advance_blend {e e' : Entry} (h : e.advance = some e') (hb : e.blend ≤ 64) : e'.blend ≤ 64 := by
  unfold Entry.advance at h
  (repeat' split at h) <;> cases h <;> first | exact hb | (dsimp only; omega)

end Sys2Proof.Machine
end

