-- ==== Sys2Proof/Laws/PerInstr.lean ====
section
/-!
SUPPORT. The family RequestLine: the frame that spells a well-formed request is a data frame with data length 8 on the
request identifier of its sender (R32).
-/

namespace Sys2Proof.Laws.RequestLine

open Sys2Proof.Safety

/-- The frame of a request is a data frame with length 8 on its sender's identifier (R32). -/
def Statement (i : Instr) : Prop :=
  ∀ a f, requester i = some a → encodeFrame i = some f →
    f.ident = requestIdent a ∧ f.lengthCode = 8 ∧ f.rejected = false ∧ f.extended = false ∧ f.remote = false

theorem post (sender : Address) (cls scope : Byte) (value : BitVec 16) (lifetime options gate : Byte) : Statement (.post sender cls scope value lifetime options gate) := by
  intro a f h g; cases h; cases g; exact ⟨rfl, rfl, rfl, rfl, rfl⟩

theorem refresh (sender : Address) (cls : Byte) : Statement (.refresh sender cls) := by
  intro a f h g; cases h; cases g; exact ⟨rfl, rfl, rfl, rfl, rfl⟩

theorem release (sender : Address) (cls : Byte) : Statement (.release sender cls) := by
  intro a f h g; cases h; cases g; exact ⟨rfl, rfl, rfl, rfl, rfl⟩

theorem excerpt (sender : Address) (preset start count : Byte) : Statement (.excerpt sender preset start count) := by
  intro a f h g; cases h; cases g; exact ⟨rfl, rfl, rfl, rfl, rfl⟩

theorem setParam (sender : Address) (id : Byte) (value : BitVec 16) : Statement (.setParam sender id value) := by
  intro a f h g; cases h; cases g; exact ⟨rfl, rfl, rfl, rfl, rfl⟩

theorem setRoster (sender : Address) (target state classes scope configure : Byte) : Statement (.setRoster sender target state classes scope configure) := by
  intro a f h g; cases h; cases g; exact ⟨rfl, rfl, rfl, rfl, rfl⟩

theorem store (sender : Address) : Statement (.store sender) := by
  intro a f h g; cases h; cases g; exact ⟨rfl, rfl, rfl, rfl, rfl⟩

theorem clearTrip (sender : Address) : Statement (.clearTrip sender) := by
  intro a f h g; cases h; cases g; exact ⟨rfl, rfl, rfl, rfl, rfl⟩

theorem exercise (sender : Address) (channel mode count : Byte) : Statement (.exercise sender channel mode count) := by
  intro a f h g; cases h; cases g; exact ⟨rfl, rfl, rfl, rfl, rfl⟩

theorem exerciseStop (sender : Address) : Statement (.exerciseStop sender) := by
  intro a f h g; cases h; cases g; exact ⟨rfl, rfl, rfl, rfl, rfl⟩

theorem restart (sender : Address) : Statement (.restart sender) := by
  intro a f h g; cases h; cases g; exact ⟨rfl, rfl, rfl, rfl, rfl⟩

theorem malformedFrame (sender : Address) (lengthCode : Fin 16) (kind : Byte) : Statement (.malformedFrame sender lengthCode kind) := by
  intro a f h; cases h

theorem ignoredFrame (reason : IgnoredReason) : Statement (.ignoredFrame reason) := by
  intro a f h; cases h

theorem deadlineExpiry (slot : Slot) : Statement (.deadlineExpiry slot) := by
  intro a f h; cases h

theorem allocationPeriod : Statement (.allocationPeriod) := by
  intro a f h; cases h

theorem holdOverride : Statement (.holdOverride) := by
  intro a f h; cases h

theorem muteExpiry (address : Address) : Statement (.muteExpiry address) := by
  intro a f h; cases h

theorem transmitStart : Statement (.transmitStart) := by
  intro a f h; cases h

theorem transmitComplete : Statement (.transmitComplete) := by
  intro a f h; cases h

theorem transmitFailure (why : TransmitFault) : Statement (.transmitFailure why) := by
  intro a f h; cases h

theorem recoveryWaitExpiry : Statement (.recoveryWaitExpiry) := by
  intro a f h; cases h

theorem coldStart : Statement (.coldStart) := by
  intro a f h; cases h

theorem debouncedLineChange (line : DebouncedLine) (active : Bool) : Statement (.debouncedLineChange line active) := by
  intro a f h; cases h

theorem debounceExpiry (line : DebouncedLine) : Statement (.debounceExpiry line) := by
  intro a f h; cases h

theorem driveRequestChange (active : Bool) : Statement (.driveRequestChange active) := by
  intro a f h; cases h

theorem ignitionChange (active : Bool) : Statement (.ignitionChange active) := by
  intro a f h; cases h

theorem brakeCutOutChange (active : Bool) : Statement (.brakeCutOutChange active) := by
  intro a f h; cases h

theorem toothEdge (channel : Channel) : Statement (.toothEdge channel) := by
  intro a f h; cases h

theorem toothTimeout (channel : Channel) : Statement (.toothTimeout channel) := by
  intro a f h; cases h

theorem suspectSetExpiry (channel : Channel) : Statement (.suspectSetExpiry channel) := by
  intro a f h; cases h

theorem suspectClearExpiry (channel : Channel) : Statement (.suspectClearExpiry channel) := by
  intro a f h; cases h

theorem conversionComplete (raw : BitVec 12) : Statement (.conversionComplete raw) := by
  intro a f h; cases h

theorem scanTriggerExpiry : Statement (.scanTriggerExpiry) := by
  intro a f h; cases h

theorem watchTimerExpiry : Statement (.watchTimerExpiry) := by
  intro a f h; cases h

theorem modulationPeriodStart : Statement (.modulationPeriodStart) := by
  intro a f h; cases h

theorem modulatorPulseStart (channel : Channel) : Statement (.modulatorPulseStart channel) := by
  intro a f h; cases h

theorem modulatorPulseEnd (channel : Channel) : Statement (.modulatorPulseEnd channel) := by
  intro a f h; cases h

theorem parkPulseEnd : Statement (.parkPulseEnd) := by
  intro a f h; cases h

theorem confirmationWindowExpiry : Statement (.confirmationWindowExpiry) := by
  intro a f h; cases h

theorem retryTimerExpiry : Statement (.retryTimerExpiry) := by
  intro a f h; cases h

theorem stallTimerExpiry : Statement (.stallTimerExpiry) := by
  intro a f h; cases h

theorem settleTimerExpiry : Statement (.settleTimerExpiry) := by
  intro a f h; cases h

theorem dwellExpiry : Statement (.dwellExpiry) := by
  intro a f h; cases h

theorem quietWindowExpiry : Statement (.quietWindowExpiry) := by
  intro a f h; cases h

theorem withheldReleaseExpiry : Statement (.withheldReleaseExpiry) := by
  intro a f h; cases h

theorem springCycleEntryExpiry : Statement (.springCycleEntryExpiry) := by
  intro a f h; cases h

theorem statusPeriodExpiry : Statement (.statusPeriodExpiry) := by
  intro a f h; cases h

theorem storeComplete : Statement (.storeComplete) := by
  intro a f h; cases h

end Sys2Proof.Laws.RequestLine
end

