-- ==== Sys2Proof/Tests/Slice0.lean ====
section
/-!
SUPPORT. Tests: ill-formed terms, request frames written out from R47, the manual's worked figures, and one witness for
each statement that has hypotheses. Expected results are the manual's own figures.
-/

namespace Sys2Proof.Tests

open Sys2Proof Sys2Proof.Machine Sys2Proof.Safety

/-! ### Small states -/

/-- The command answers a next state with a property. -/
def nextHas (c : Instr) (s : State) (p : State → Bool) : Bool :=
  match exec c s with
  | .next t => p t
  | .fault _ => false
  | .refused _ => false

/-- An input whose standing result is a value. -/
def reading (v : Nat) : InputItems :=
  { standing := some { value := some v, window := none }, standingValid := some v, current := none, currentValid := none,
    allValid := none }

/-- A circuit under electronic control. -/
def electronicCircuit : Circuit :=
  { mode := .electronic
    causes := { starting := false, trip := false, pressureInvalid := false, supplyInvalid := false, pedalLost := false }
    pressureRun := 0, supplyRun := 0 }

/-- A roster record that may do everything. -/
def fullRecord : RosterRecord :=
  { state := .enrolled, classes := 0b11111#5, scope := 0b111111#6, configure := true, malformed := 3, muteTimer := none }

/-- The park valve standing APPLIED with park wanted. -/
def appliedPark : Park :=
  { state := .applied, step := none, pulseTimer := none, confirmTimer := none, pulses := 0, wanted := true,
    applyPending := false, retryTimer := none, fault := false, withheld := false }

/-- The bus at the stop of 11.1, in AUTO_PARK: both circuits ELECTRONIC, springs APPLIED, rear supply 700, drive
pressures 338 and 342, and address 5 ENROLLED with every permission. -/
def bench : State :=
  { State.reset with
    clock := { us := 20000000, ms := 1000, capture := 500000 }
    circuit := Vector.replicate 2 electronicCircuit
    park := appliedPark
    roster := put State.reset.roster 5 fullRecord
    pedal := { State.reset.pedal with travel := some 40 }
    sampling := { State.reset.sampling with inputs := #v[reading 205, reading 203, reading 338, reading 342, reading 236,
      reading 236, reading 780, reading 700, reading 580, reading 40, reading 960, reading 240] } }

/-- An entry of a class by a source. -/
def entryOf (src : Source) (cls : DemandClass) (st : EntryState) (value blend : Nat) : Entry :=
  { source := src, cls := cls, scope := 0b111111#6, value := some value, lifetime := some 300, deadline := some 1300,
    policy := .rampOut, gate := none, state := st, blend := blend }

/-- The table of a state with one slot replaced. -/
def withSlot (s : State) (i : Slot) (e : Option Entry) : State := { s with table := put s.table i e }

/-- The coordinator's state replaced. -/
def standing (s : State) (st : Standstill) : State := { s with coord := { s.coord with state := st } }

/-- A PARK entry of address 5. -/
def parkOf5 : Entry :=
  { source := 5, cls := .park, scope := 0b001100#6, value := none, lifetime := none, deadline := none, policy := .freeze,
    gate := none, state := .active, blend := 64 }

/-- The bus rolling in RUN with the springs RELEASED and no PARK entry. -/
def rolling : State :=
  { standing (withSlot bench 4 none) .run with park := { appliedPark with state := .released, wanted := false } }

/-- A whole table: address 0's TEST entries stand in every slot left, which no run reaches but any statement must bear. -/
def fullTable : Table := Vector.ofFn fun i => if i.val < 5 then none else some (entryOf 0 .test .active 0 0)

/-- A frame of an identifier. -/
def frameOf (ident : BitVec 11) : Frame := { ident, b0 := 0, b1 := 0, b2 := 0, b3 := 0, b4 := 0, b5 := 0, b6 := 0, b7 := 0 }

/-- A queued answer that no restart waits for. -/
def queued (ident : BitVec 11) : QueuedAnswer := { frame := frameOf ident, restart := false }

/-- An answer in transmission. -/
def sendingAnswer : Transmission := { holder := .answer, frame := frameOf 0x265, restart := false, held := true }

/-- The port with an answer in transmission and an error count. -/
def sending (count : Nat) : State :=
  { bench with port := { bench.port with answers := [queued 0x265], tx := some sendingAnswer, errorCount := count } }

/-- Eight answers wait. -/
def fullQueue (s : State) : State := { s with port := { s.port with answers := List.replicate 8 (queued 0x265) } }

/-! ### Well-formedness (R32) -/

/-- A frame of data length 8 and a request kind is no malformed one. -/
theorem test_wf_malformed_post : (Instr.malformedFrame 3 8 1).wf = false := by decide

/-- Nor is one whose kind is the last request kind, RESTART. -/
theorem test_wf_malformed_restart : (Instr.malformedFrame 3 8 11).wf = false := by decide

/-- EXERCISE_DONE is a kind of answers only, so a request with it is malformed. -/
theorem test_wf_malformed_done : (Instr.malformedFrame 3 8 12).wf = true := by decide

/-- A request identifier is not ignored for its identifier; its neighbours are. -/
theorem test_wf_ignored_ident : (Instr.ignoredFrame (.otherIdentifier 0x240)).wf = false ∧
    (Instr.ignoredFrame (.otherIdentifier 0x24F)).wf = false ∧ (Instr.ignoredFrame (.otherIdentifier 0x23F)).wf = true ∧
    (Instr.ignoredFrame (.otherIdentifier 0x250)).wf = true := by decide

/-- The step refuses both ill-formed terms. -/
theorem test_wf_refused : exec (.malformedFrame 3 8 1) bench = .refused .illFormed ∧
    exec (.ignoredFrame (.otherIdentifier 0x240)) bench = .refused .illFormed := ⟨rfl, rfl⟩

/-! ### Request frames (R32, R47) -/

/-- A frame of 8 data bytes on a standard identifier. -/
def busFrame (ident : BitVec 11) (b0 b1 b2 b3 b4 b5 b6 b7 : Byte) : BusFrame :=
  { rejected := false, extended := false, remote := false, ident, lengthCode := 8, b0, b1, b2, b3, b4, b5, b6, b7 }

/-- POST by address 3: HOLD, all channels, value 0x012C low byte first, lifetime byte 15, FREEZE and gate, gate 30. -/
theorem test_decode_post : decodeFrame (busFrame 0x243 0x01 0x03 0x3F 0x2C 0x01 0x0F 0x03 0x1E) =
    .post 3 3 0x3F 300 15 3 30 := by decide

/-- REFRESH of SERVICE and RELEASE of PARK by address 5; the bytes they do not use hold anything. -/
theorem test_decode_refresh_release :
    decodeFrame (busFrame 0x245 0x02 0x02 0xAA 0 0 0 0 0xFF) = .refresh 5 2 ∧
    decodeFrame (busFrame 0x245 0x03 0x04 0 0x55 0 0 0 0) = .release 5 4 := by decide

/-- EXCERPT of slots 9 and 10, and the ROSTER preset. -/
theorem test_decode_excerpt :
    decodeFrame (busFrame 0x242 0x04 0x00 0x09 0x02 0 0 0 0) = .excerpt 2 0 9 2 ∧
    decodeFrame (busFrame 0x24F 0x04 0x03 0 0 0 0 0 0) = .excerpt 15 3 0 0 := by decide

/-- SET_PARAM of id 31 to 400, its value in bytes 2 and 3, low byte first. -/
theorem test_decode_setParam : decodeFrame (busFrame 0x24F 0x05 0x1F 0x90 0x01 0x77 0 0 0) = .setParam 15 31 400 := by
  decide

/-- SET_ROSTER of address 5: ENROLLED, HOLD and PARK, channels 0 and 1, no configure. -/
theorem test_decode_setRoster : decodeFrame (busFrame 0x24F 0x06 0x05 0x01 0x0C 0x03 0x00 0 0) =
    .setRoster 15 5 1 0x0C 3 0 := by decide

/-- STORE, CLEAR_TRIP, EXERCISE_STOP and RESTART carry no operand but the sender. -/
theorem test_decode_plain :
    decodeFrame (busFrame 0x24F 0x07 1 2 3 4 5 6 7) = .store 15 ∧
    decodeFrame (busFrame 0x24F 0x08 1 2 3 4 5 6 7) = .clearTrip 15 ∧
    decodeFrame (busFrame 0x24F 0x0A 1 2 3 4 5 6 7) = .exerciseStop 15 ∧
    decodeFrame (busFrame 0x24F 0x0B 1 2 3 4 5 6 7) = .restart 15 := by decide

/-- EXERCISE of channel 4, COUNT 2. -/
theorem test_decode_exercise : decodeFrame (busFrame 0x24F 0x09 0x04 0x00 0x02 0 0 0 0) = .exercise 15 4 0 2 := by decide

/-- A 6-byte frame on a request identifier is malformed, and so are kinds 0 and 0x0C. -/
theorem test_decode_malformed :
    decodeFrame { busFrame 0x245 0x02 0x03 0 0 0 0 0 0 with lengthCode := 6 } = .malformedFrame 5 6 2 ∧
    decodeFrame (busFrame 0x245 0x00 0 0 0 0 0 0 0) = .malformedFrame 5 8 0 ∧
    decodeFrame (busFrame 0x245 0x0C 0 0 0 0 0 0 0) = .malformedFrame 5 8 12 := by decide

/-- Remote frames, extended identifiers, rejected frames and other identifiers are ignored. -/
theorem test_decode_ignored :
    decodeFrame { busFrame 0x245 2 3 0 0 0 0 0 0 with remote := true } = .ignoredFrame .remoteFrame ∧
    decodeFrame { busFrame 0x245 2 3 0 0 0 0 0 0 with extended := true } = .ignoredFrame .extendedIdentifier ∧
    decodeFrame { busFrame 0x245 2 3 0 0 0 0 0 0 with rejected := true } = .ignoredFrame .rejectedForBusError ∧
    decodeFrame (busFrame 0x265 2 3 0 0 0 0 0 0) = .ignoredFrame (.otherIdentifier 0x265) := by decide

/-- The table gives no bits, so no word spells a command (log entry 22). -/
theorem test_table_word : decodeTableWord 8 1 = none := rfl

/-! ### Worked figures -/

/-- The table of R92 at 3200 mm and 80 teeth. -/
theorem test_speed_figures : speedOf 3200 80 200000 = 7 ∧ speedOf 3200 80 150000 = 9 ∧ speedOf 3200 80 3000 = 480 ∧
    speedOf 3200 80 960 = 1500 ∧ speedOf 3200 80 900 = 1500 ∧ speedOf 3200 80 0 = 1500 := by decide

/-- The slips of the worked example of chapter 5 (R98). -/
theorem test_slip_figures : slipOf 400 320 = 20 ∧ slipOf 392 340 = 13 ∧ slipOf 384 375 = 2 ∧ slipOf 49 0 = 0 := by decide

/-- The figures of R117. -/
theorem test_convert_figures : convert 0 81 = none ∧ convert 0 82 = some 0 ∧ convert 0 412 = some 1 ∧
    convert 9 613 = some 62 ∧ convert 6 1633 = some 373 ∧ convert 8 1720 = some 400 ∧ convert 7 3684 = some 999 ∧
    convert 11 82 = some 8 ∧ convert 11 1634 = some 160 ∧ convert 11 2458 = some 240 ∧ convert 11 4014 = none := by decide

/-- The demanded decelerations of the pedal example (R59). -/
theorem test_demand_figures : demandOf (some 347) = 250 ∧ demandOf (some 350) = 253 ∧ demandOf (some 440) = 328 ∧
    demandOf (some 380) = 278 ∧ demandOf (some 50) = 0 ∧ demandOf none = 0 := by decide

/-- The third disagreeing scan sets PEDAL_DISAGREE; a lost B then sets PEDAL_SINGLE and clears the run (R56, R57). -/
theorem test_pedal_scans :
    let r0 : PedalRecord := { State.reset.pedal with disagreeRun := 2 }
    let r1 := r0.update (some 347) (some 440)
    (r1.travel, r1.disagreeRun, r1.disagree) = (some 440, 3, true) ∧
    (r1.update (some 347) none) =
      { travel := some 347, disagreeRun := 0, agreeRun := 0, disagree := true, single := true, lost := false } := by decide

/-- The effective decelerations of R72 and the pressures of R73. -/
theorem test_pressure_figures :
    (entryOf 0 .service .active 250 64).effective = 250 ∧ (entryOf 0 .service .active 120 48).effective = 90 ∧
    (entryOf 0 .service .active 600 60).effective = 563 ∧ (entryOf 0 .service .active 1 16).effective = 0 ∧
    decelPressure factoryParams 0 250 = 298 ∧ decelPressure factoryParams 1 250 = 340 ∧
    decelPressure factoryParams 2 250 = 240 ∧ decelPressure factoryParams 0 800 = 875 ∧
    decelPressure factoryParams 0 0 = 0 := by decide

/-- The commands of the worked period of chapter 4 (R83). -/
theorem test_command_figures :
    formCommand factoryParams 212 205 = { dir := .hold, duty := 0 } ∧
    formCommand factoryParams 212 203 = { dir := .apply, duty := 17 } ∧
    formCommand factoryParams 332 290 = { dir := .apply, duty := 83 } ∧
    formCommand factoryParams 332 300 = { dir := .apply, duty := 63 } ∧
    formCommand factoryParams 610 340 = { dir := .apply, duty := 100 } ∧
    formCommand factoryParams 290 299 = { dir := .release, duty := 17 } := by decide

/-! ### Demands -/

/-- The POST of the worked example of chapter 1: handle 9, 22 general and 4 EMERGENCY slots free, remaining 30. -/
theorem test_post_example : nextHas (.post 5 2 0x3F 120 15 0 0) bench (fun t =>
    t.table[(9 : Slot)] == some { entryOf 5 .service .active 120 0 with deadline := some 1300 } &&
    t.port.answers == [{ frame := { ident := 0x265, b0 := 1, b1 := 2, b2 := 0, b3 := 9, b4 := 22, b5 := 4, b6 := 30,
                                    b7 := 0 }, restart := false }]) = true := by decide

/-- A HOLD value above hold_max is clamped and answered ACCEPTED_CLAMPED (R37, R38). -/
theorem test_post_clamped : nextHas (.post 5 3 0x3F 500 0 0 0) bench (fun t =>
    (t.table[(9 : Slot)].map fun e => (e.value, e.lifetime)) == some (some 400, some 5000) &&
    (t.port.answers.map fun q => q.frame.b2) == [1]) = true := by decide

/-- The REFRESH of a LAPSING entry is refused LAPSED with its handle and remaining lifetime 0 (R13, R15). -/
theorem test_refresh_lapsed : nextHas (.refresh 5 2) (withSlot bench 9 (some (entryOf 5 .service .lapsing 120 64))) (fun t =>
    (t.port.answers.map fun q => (q.frame.b2, q.frame.b3, q.frame.b6)) == [(9, 9, 0)]) = true := by decide

/-- The RELEASE of a class with no entry is refused UNKNOWN_ENTRY with handle 0xFF (R14, R15). -/
theorem test_release_unknown : nextHas (.release 5 3) bench (fun t =>
    (t.port.answers.map fun q => (q.frame.b2, q.frame.b3)) == [(8, 0xFF)]) = true := by decide

/-- A HOLD released at blend 40 falls 32, 24, 16, 8 and is removed at the fifth advance (R18). -/
theorem test_ramp_out :
    ((entryOf 5 .hold .retiring 200 40).advance.map Entry.blend = some 32) ∧
    (entryOf 5 .hold .retiring 200 8).advance = none ∧
    ((entryOf 5 .service .active 120 48).advance.map Entry.blend = some 64) := by decide

/-- The worked allocation period of chapter 4, at standstill with the pedal at 250 and the door hold at blend 24: targets
212, 332 and 240, and DL's command. -/
theorem test_period_example : nextHas .allocationPeriod
    { withSlot (withSlot bench 0 (some { pedalEntry with value := some 250, blend := 64 })) 1
        (some { entryOf 17 .hold .active 250 24 with gate := some 30 }) with
      alloc := { bench.alloc with timer := 20000000, target := #v[200, 200, 320, 320, 240, 240] }
      sampling := { bench.sampling with inputs := put bench.sampling.inputs 2 (reading 290) } } (fun t =>
    t.alloc.target == #v[212, 212, 332, 332, 240, 240] &&
    t.valve.chan[(2 : Channel)].buffer == { dir := .apply, duty := 83 } &&
    t.valve.chan[(0 : Channel)].buffer == { dir := .hold, duty := 0 } &&
    t.valve.chan[(1 : Channel)].buffer == { dir := .apply, duty := 17 } &&
    t.alloc.supplyLimited == Vector.replicate 6 false) = true := by decide

/-! ### Port, status, settings -/

/-- The STATUS A formed from the reset state: AUTO_PARK, both circuits FALLBACK, 23 general and 4 EMERGENCY slots free
(R50). -/
theorem test_status_a : statusA State.reset =
    { ident := 0x280, b0 := 2, b1 := 5, b2 := 0, b3 := 0, b4 := 0, b5 := 23, b6 := 4, b7 := 0 } := by decide

/-- STATUS B page 0 of the bench with targets 298 and 340: target and measured div 4 (R50). -/
theorem test_status_b : statusB { bench with alloc := { bench.alloc with target := #v[298, 298, 340, 340, 240, 240] } } 0 =
    { ident := 0x281, b0 := 0, b1 := 74, b2 := 51, b3 := 74, b4 := 50, b5 := 85, b6 := 84, b7 := 0 } := by decide

/-- Of two pending frames the lower identifier goes first: STATUS C before an answer is not so, 0x265 lies below 0x282
(R43). -/
theorem test_arbitration : nextHas .transmitStart
    { bench with port := { bench.port with
        answers := [queued 0x265]
        status := put bench.port.status 2 { current := some (frameOf 0x282), behind := none } } }
    (fun t => t.port.tx == some sendingAnswer) = true := by decide

/-- SET_PARAM of gain front to 110 is read back in the answer (R48, R197). -/
theorem test_setParam_answer : nextHas (.setParam 5 1 110) bench (fun t =>
    t.settings.params.gain 0 == 110 &&
    t.port.answers == [{ frame := { ident := 0x265, b0 := 5, b1 := 1, b2 := 0, b3 := 0xFF, b4 := 23, b5 := 4, b6 := 110,
                                    b7 := 0 }, restart := false }]) = true := by decide

/-- Slip off not below slip on is refused BAD_FIELD with the value in force (R99, R197). -/
theorem test_setParam_joint : nextHas (.setParam 5 22 18) bench (fun t =>
    t.settings.params.slipOff == 10 && (t.port.answers.map fun q => (q.frame.b2, q.frame.b6)) == [(5, 10)]) = true := by
  decide

/-- The SET_ROSTER of 10.1: address 5 with HOLD alone over channels 0 and 1 keeps its HOLD entry there and loses its PARK
entry (R20). -/
theorem test_setRoster_example : nextHas (.setRoster 15 5 1 4 3 0)
    (withSlot (withSlot bench 9 (some (entryOf 5 .hold .active 200 64))) 10 (some parkOf5)) (fun t =>
    (t.table[(9 : Slot)].map fun e => (e.scope, e.state)) == some (0b000011#6, .active) &&
    t.table[(10 : Slot)] == none) = true := by decide

/-- The END frame of a CHANNELS emission counts its six frames (R49, R192). -/
theorem test_excerpt_end : endFrame { requester := 15, kind := .channels } 6 =
    { ident := 0x2AF, b0 := 5, b1 := 1, b2 := 6, b3 := 0, b4 := 0, b5 := 0, b6 := 0, b7 := 0 } := by decide

/-- An ENTRY frame: handle 9, HOLD, source 5, RETIRING, gate 30 present, lifetime present (R49). -/
theorem test_excerpt_entry : itemFrame 0x2A2 (.slot 9 (some { entryOf 5 .hold .retiring 300 40 with gate := some 30 })) =
    { ident := 0x2A2, b0 := 1, b1 := 0x69, b2 := 0x25, b3 := 0xFF, b4 := 0x2C, b5 := 1, b6 := 40, b7 := 30 } := by decide

/-- A cold start of the shipped module, its counters put back to 0, is the reset state but for the draws (R25, R198). -/
theorem test_cold_start_is_reset : nextHas .coldStart
    { bench with clock := { us := 0, ms := 0, capture := 0 }, pedal := State.reset.pedal } (fun t =>
    decide ({ t with clock := State.reset.clock, draws := 0 } = State.reset)) = true := by decide

/-! ### Cab lines and wheels -/

/-- The stop at the kerb: the debounce expiry at v_ref 51 posts the door hold and sets DOOR_OPEN_MOVING (R61, R62). -/
theorem test_door_example : nextHas (.debounceExpiry .doorOpen)
    { standing bench .run with vref := 51, door := { raw := true, state := false, timer := some 20000000 } } (fun t =>
    t.doorOpenMoving &&
    (t.table[(1 : Slot)].map fun e => (e.value, e.gate, e.blend)) == some (some 250, some 30, 0)) = true := by decide

/-- The second edge of DL in an armed window is creep: CREEP_HOLD with slot 3 at 300 and a new window (11.3; R174, R175). -/
theorem test_creep_example : nextHas (.toothEdge 2)
    { bench with coord := { bench.coord with quietTimer := some 21100000, edges := #v[0, 0, 1, 0, 0, 0] } } (fun t =>
    t.coord.state == .creepHold && (t.table[(3 : Slot)].map fun e => (e.value, e.blend)) == some (some 300, 0) &&
    t.coord.quietTimer == some 25000000 && t.coord.edges == Vector.replicate 6 0) = true := by decide

/-- The front wheel locking on wet leaves: at 20 % slip FL goes to DUMP with count 1, and its command is RELEASE 100 %
(R101, R102). -/
theorem test_slip_example : nextHas .allocationPeriod
    { standing bench .run with
      vref := 400
      wheel := put (Vector.replicate 6 { bench.wheel[(0 : Channel)] with speed := 400 }) 0
        { bench.wheel[(0 : Channel)] with speed := 320 }
      alloc := { bench.alloc with timer := 20000000, target := Vector.replicate 6 450 } } (fun t =>
    t.slip.group[(0 : Fin 5)] == { phase := .dump, dump := 1, hold := 0 } &&
    t.slip.group[(1 : Fin 5)] == { phase := .follow, dump := 0, hold := 0 } &&
    t.valve.chan[(0 : Channel)].buffer == { dir := .release, duty := 100 }) = true := by decide

/-! ### Sampling, circuits, valves -/

/-- A trigger that finds a scan in flight starts none and counts an overrun (R121). -/
theorem test_overrun : nextHas .scanTriggerExpiry
    { bench with sampling := { bench.sampling with trigger := some 20000000 } } (fun t =>
    t.sampling.overrun == 1 && t.sampling.scan == bench.sampling.scan && t.sampling.trigger == some 20002000) = true := by
  decide

/-- The slow rear supply transducer of chapter 8: the first scan gives the front circuit back with its targets re-seeded,
and the rear keeps STARTING and gains SUPPLY_INVALID (R86, R151 to R155). -/
theorem test_first_scan : nextHas (.conversionComplete 2458)
    { bench with
      circuit := State.reset.circuit
      sampling := { bench.sampling with
        scan := some { record := 11, stop := 20000000 }
        inputs := put (mapAll bench.sampling.inputs fun _ x => { x with current := x.standing, allValid := some true }) 7
          { reading 700 with current := some { value := none, window := none }, allValid := some false } } } (fun t =>
    t.circuit[(0 : CircuitId)] == electronicCircuit && t.circuit[(1 : CircuitId)].mode == .fallback &&
    t.circuit[(1 : CircuitId)].causes == { starting := true, trip := false, pressureInvalid := false,
                                           supplyInvalid := true, pedalLost := false } &&
    t.alloc.target == #v[205, 203, 0, 0, 0, 0] && t.sampling.scan == none) = true := by decide

/-- The worked periods of chapter 7: APPLY 83 % runs 13.2 ms; a RELEASE 29 % after it starts at 16.2 ms and ends at 20.8 ms
(R136, R137). -/
theorem test_pulse_example : nextHas .modulationPeriodStart
    { bench with
      clock := { bench.clock with us := 16000 }
      valve := { timer := 16000, chan := put bench.valve.chan 2 { bench.valve.chan[(2 : Channel)] with
        buffer := { dir := .release, duty := 29 }, last := some { valve := .inlet, stop := 13200 } } } } (fun t =>
    t.valve.chan[(2 : Channel)].waiting == some { valve := .exhaust, start := 16200, stop := 20800 } &&
    t.valve.timer == 32000) = true := by decide +kernel

/-- The short count of chapter 7: the first pulse of TL is inlet 16.0 to 32.0, next direction RELEASE, no cycle yet
(R146, R147). -/
theorem test_exercise_example : nextHas .modulationPeriodStart
    { bench with
      clock := { bench.clock with us := 16000 }
      exercise := { running := true, owner := some 15, channel := some 4, mode := some (.count 2), owning := none,
                    next := .inlet, cycles := 0, wrapped := false }
      valve := { timer := 16000, chan := put bench.valve.chan 4 { bench.valve.chan[(4 : Channel)] with
        last := some { valve := .exhaust, stop := 4000 } } } } (fun t =>
    t.valve.chan[(4 : Channel)].waiting == some { valve := .inlet, start := 16000, stop := 32000 } &&
    t.exercise.next == .exhaust && t.exercise.cycles == 0 && t.exercise.owning == some 4) = true := by decide +kernel

/-- A change of mind at drive-off: the RELEASE pulse ends with an apply attempt pending, and the APPLY pulse follows at once
(R139, R141). -/
theorem test_park_example : nextHas .parkPulseEnd
    { bench with park := { appliedPark with state := .releasing, step := some .pulse, pulseTimer := some 20000000,
                                            applyPending := true } } (fun t =>
    t.park.state == .applying && t.park.step == some .pulse && t.park.pulses == 1 &&
    t.park.pulseTimer == some 20150000) = true := by decide

/-! ### Standstill -/

/-- The stop on a gradient: the settle expiry posts HOLD 342 and the dwell runs 45 s (11.1; R169 to R171). -/
theorem test_settle_example : nextHas .settleTimerExpiry
    { rolling with coord := { rolling.coord with settleTimer := some 20000000 } } (fun t =>
    t.coord.state == .stopHold && (t.table[(3 : Slot)].map fun e => (e.value, e.blend)) == some (some 342, 0) &&
    t.coord.dwellTimer == some 65000000) = true := by decide

/-- The refused promotion: six entries are not fewer than six; the count rises and the dwell starts again (11.2; R173). -/
theorem test_dwell_example : nextHas .dwellExpiry
    { rolling with coord := { rolling.coord with
        state := .stopHold, dwellTimer := some 20000000, promotionRefused := 3
        springCycles := [160000, 250000, 330000, 420000, 510000, 640000] } } (fun t =>
    t.coord.state == .stopHold && t.coord.promotionRefused == 4 && t.coord.dwellTimer == some 65000000) = true := by decide

/-- Ignition off with the springs RELEASED: SECURING, slot 3 raised to 400, slot 4 PARK, APPLYING pulse 1 (11.7; R183). -/
theorem test_ignition_example : nextHas (.ignitionChange false)
    (withSlot (standing rolling .stopHold) 3 (some { entryOf 19 .hold .active 260 64 with lifetime := none, deadline := none }))
    (fun t => t.coord.state == .securing && (t.table[(3 : Slot)].map fun e => (e.value, e.blend)) == some (some 400, 64) &&
      (t.table[(4 : Slot)].map Entry.cls) == some .park && t.park.state == .applying && t.park.pulses == 1) = true := by
  decide

/-- The confirmation at 40 kPa completes securing: slots 0 and 3 purged, both circuits RESTING, watch scan, and the status
period of 1000 ms (11.7; R24, R153, R184, R194). -/
theorem test_secured_example : nextHas (.conversionComplete 541)
    { withSlot (standing rolling .securing) 4 bench.table[(4 : Slot)] with
      park := { appliedPark with state := .applying, step := some .confirm, confirmTimer := some 21000000, pulses := 1 }
      sampling := { bench.sampling with scan := some { record := 8, stop := 20000000 } } } (fun t =>
    t.coord.state == .secured && t.park.state == .applied && t.table[(0 : Slot)] == none && t.table[(3 : Slot)] == none &&
    (t.table[(4 : Slot)].map Entry.cls) == some .park && t.circuit[(0 : CircuitId)].mode == .resting &&
    t.circuit[(1 : CircuitId)].mode == .resting && t.sampling.watchMode && t.status.timer == 21000000) = true := by decide

/-! ### Witnesses: states that meet the hypotheses of the statements -/

theorem test_witness_StepTakesFront :
    ({ bench with pending := [.store 3, .restart 1] } : State).pending = .store 3 :: [.restart 1] := rfl

theorem test_witness_IdleTicks : State.reset.pending = [] ∧ dueEvents State.reset = [] := by decide

theorem test_witness_FramesDecodeBack :
    (Instr.post 15 0xFF 0xFF 0xFFFF 0xFF 0xFF 0xFF).wf = true ∧
    encodeFrame (.post 15 0xFF 0xFF 0xFFFF 0xFF 0xFF 0xFF) = some (busFrame 0x24F 1 0xFF 0xFF 0xFF 0xFF 0xFF 0xFF 0xFF) ∧
    (Instr.malformedFrame 0 15 11).wf = true ∧ (encodeFrame (.malformedFrame 0 15 11)).isSome = true ∧
    (Instr.ignoredFrame (.otherIdentifier 0x250)).wf = true := by decide

/-- OFFLINE, and MUTED. -/
theorem test_witness_UnheardRequests :
    requester (.store 5) = some 5 ∧ ({ bench with port := { bench.port with online := false } } : State).port.online = false ∧
    ({ bench with roster := put bench.roster 5 { fullRecord with state := .muted } } : State).roster[(5 : Address)].state =
      .muted := by decide

/-- With 7 and with 8 answers waiting. -/
theorem test_witness_AbsentRequests :
    requester (.post 0 2 1 2 3 4 5) = some 0 ∧ (encodeFrame (.post 0 2 1 2 3 4 5)).isSome = true ∧
    bench.port.online = true ∧ bench.roster[(0 : Address)].state = .absent ∧ bench.port.answers.length < 8 ∧
    8 ≤ (fullQueue bench).port.answers.length ∧ (fullQueue bench).port.online = true ∧
    (fullQueue bench).roster[(0 : Address)].state = .absent := by decide

/-- The common premises of a POST of TEST, lifetime bytes 5 and 250, with exactly the threshold of 4 general slots free, of
one with the general partition full, and of an EMERGENCY post with its partition full. -/
theorem test_witness_PostCreates :
    let s : State := { bench with table := mapAll fullTable fun i e => if 28 ≤ i.val then none else e }
    let full : State := { bench with table := fullTable }
    (s.port.online = true ∧ s.roster[(5 : Address)].state = .enrolled ∧ classOf 5 = some .test ∧
      permits s.roster[(5 : Address)].classes .test = true ∧ s.coord.state ≠ .securing ∧ s.coord.state ≠ .secured ∧
      scopeOf 0x3F ≠ 0#6 ∧ within (scopeOf 0x3F) s.roster[(5 : Address)].scope = true ∧
      findEntry s.table (busSource 5) .test = none ∧ firstVacant s.table generalSlots = some 28 ∧
      s.settings.params.roomThreshold ≤ freeGeneral s.table ∧ 5 ≤ (5 : Byte).toNat ∧ (250 : Byte).toNat ≤ 250) ∧
    (findEntry full.table (busSource 5) .hold = none ∧ firstVacant full.table generalSlots = none) ∧
    (findEntry full.table (busSource 5) .emergency = none ∧ firstVacant full.table emergencySlots = none ∧
      permits full.roster[(5 : Address)].classes .emergency = true ∧ classOf 1 = some .emergency) := by decide

theorem test_witness_PostRenews :
    let s := withSlot bench 9 (some (entryOf 5 .hold .lapsing 200 40))
    s.port.online = true ∧ s.roster[(5 : Address)].state = .enrolled ∧ classOf 3 = some .hold ∧
    permits s.roster[(5 : Address)].classes .hold = true ∧ s.coord.state ≠ .securing ∧ s.coord.state ≠ .secured ∧
    scopeOf 0xC1 ≠ 0#6 ∧ within (scopeOf 0xC1) s.roster[(5 : Address)].scope = true ∧
    findEntry s.table (busSource 5) .hold = some (9, entryOf 5 .hold .lapsing 200 40) := by decide

theorem test_witness_ParkPostApplies :
    rolling.port.online = true ∧ rolling.roster[(5 : Address)].state = .enrolled ∧
    permits rolling.roster[(5 : Address)].classes .park = true ∧ rolling.roster[(5 : Address)].scope.getLsbD 2 = true ∧
    rolling.roster[(5 : Address)].scope.getLsbD 3 = true ∧ anyPark rolling.table = false ∧
    firstVacant rolling.table generalSlots = some 9 ∧ rolling.park.state = .released := by decide

theorem test_witness_RefreshRestarts :
    let s := withSlot bench 31 (some (entryOf 5 .service .active 120 64))
    s.port.online = true ∧ s.roster[(5 : Address)].state = .enrolled ∧ classOf 2 = some .service ∧
    findEntry s.table (busSource 5) .service = some (31, entryOf 5 .service .active 120 64) ∧
    (entryOf 5 .service .active 120 64).state = .active ∧ (entryOf 5 .service .active 120 64).lifetime = some 300 := by
  decide

theorem test_witness_ReleaseRetires :
    let s := withSlot bench 9 (some (entryOf 5 .hold .frozen 200 64))
    s.port.online = true ∧ s.roster[(5 : Address)].state = .enrolled ∧ classOf 3 = some .hold ∧
    findEntry s.table (busSource 5) .hold = some (9, entryOf 5 .hold .frozen 200 64) ∧
    (entryOf 5 .hold .frozen 200 64).state ≠ .retiring := by decide

/-- The supply at the reserve of 620, and 1 below it. -/
theorem test_witness_LastParkReleased :
    let air (v : Nat) : State := { withSlot (withSlot bench 4 none) 9 (some parkOf5) with
      sampling := { bench.sampling with inputs := put bench.sampling.inputs 7 (reading v) } }
    (air 620).port.online = true ∧ (air 620).roster[(5 : Address)].state = .enrolled ∧
    findEntry (air 620).table (busSource 5) .park = some (9, parkOf5) ∧ parkOf5.state ≠ .retiring ∧
    anyPark (put (air 620).table 9 none) = false ∧ (air 620).park.state = .applied ∧
    (air 620).settings.params.releaseReserve ≤ supply (air 620).sampling 1 ∧ (air 620).circuit[1].mode = .electronic ∧
    ¬ (air 619).settings.params.releaseReserve ≤ supply (air 619).sampling 1 ∧
    findEntry (air 619).table (busSource 5) .park = some (9, parkOf5) ∧ (air 619).park.state = .applied := by decide

/-- A RAMP_OUT entry at its deadline and a FREEZE entry 2^31 - 1 ms after it, with the allocation timer due; an entry without
a deadline; a FROZEN entry revived. -/
theorem test_witness_DeadlineLapses :
    let e := { entryOf 5 .service .active 120 64 with deadline := some 1000 }
    let h := { entryOf 5 .hold .active 120 64 with policy := .freeze, deadline := some 1000 }
    let s := { withSlot bench 9 (some e) with alloc := { bench.alloc with timer := 20000000 } }
    let u := { withSlot bench 9 (some h) with clock := { bench.clock with ms := 2147484647 } }
    let z := withSlot bench 9 (some { entryOf 5 .hold .frozen 120 64 with deadline := none })
    (s.table[(9 : Slot)] = some e ∧ e.state = .active ∧ e.deadline = some 1000 ∧
      (s.clock.ms - (1000 : Ms)).toNat < 2147483648 ∧ e.policy = .rampOut ∧ s.alloc.timer ≤ s.clock.us ∧ e.cls ≠ .park) ∧
    (u.table[(9 : Slot)] = some h ∧ h.state = .active ∧ (u.clock.ms - (1000 : Ms)).toNat < 2147483648 ∧
      h.policy = .freeze) ∧
    (z.table[(9 : Slot)] = some { entryOf 5 .hold .frozen 120 64 with deadline := none } ∧ z.port.online = true ∧
      z.roster[(5 : Address)].state = .enrolled ∧ classOf 3 = some .hold ∧
      findEntry z.table (busSource 5) .hold = some (9, { entryOf 5 .hold .frozen 120 64 with deadline := none }) ∧
      permits z.roster[(5 : Address)].classes .hold = true ∧ z.coord.state = .autoPark ∧ scopeOf 1 ≠ 0#6 ∧
      within (scopeOf 1) z.roster[(5 : Address)].scope = true ∧
      (∀ i : Slot, (z.table[i].all fun x => x.state == .active || x.deadline == none) = true)) := by
  decide +kernel

theorem test_witness_HoldOverrideFires :
    let s : State := { bench with override := { timer := some 20000000, armed := true, flag := false } }
    s.override.timer = some 20000000 ∧ 20000000 ≤ s.clock.us := by decide

/-- Counts 14 and 15 of an ENROLLED address, an ABSENT address, and an ignored and an ill-formed term. -/
theorem test_witness_BadFramesCounted :
    let s (n : Nat) : State := { bench with roster := put bench.roster 5 { fullRecord with malformed := n } }
    (Instr.malformedFrame 5 6 2).wf = true ∧ (s 14).port.online = true ∧ (s 14).roster[(5 : Address)].state = .enrolled ∧
    (s 14).roster[(5 : Address)].malformed < 15 ∧ (s 15).roster[(5 : Address)].malformed = 15 ∧
    bench.roster[(0 : Address)].state ≠ .enrolled ∧ (Instr.ignoredFrame .remoteFrame).wf = true ∧
    (Instr.malformedFrame 5 8 11).wf = false := by decide

/-- At the mute time and 2^31 - 1 ms after it. -/
theorem test_witness_MuteExpires :
    let s : State := { bench with
      roster := put bench.roster 5 { fullRecord with state := .muted, malformed := 16, muteTimer := some 1000 } }
    s.roster[(5 : Address)].state = .muted ∧ s.roster[(5 : Address)].muteTimer = some 1000 ∧
    (s.clock.ms - (1000 : Ms)).toNat < 2147483648 ∧ ((2147484647 : Ms) - (1000 : Ms)).toNat < 2147483648 := by
  decide +kernel

theorem test_witness_TransmitStarts :
    let s : State := { bench with port := { bench.port with answers := [queued 0x265] } }
    s.port.online = true ∧ s.port.tx = none ∧ pendingFrames s.port ≠ [] := by decide

/-- An answer behind one of another identifier; a status frame with one behind it; excerpt frames: an ENTRY, an END with
nothing waiting and an END with a request waiting; and a frame that no holder keeps. -/
theorem test_witness_FrameSent :
    let behind : State := { sending 0 with port := { (sending 0).port with answers := [queued 0x266, queued 0x265] } }
    let x : Transmission := { holder := .status 2, frame := frameOf 0x282, restart := false, held := true }
    let s : State := { bench with port := { bench.port with
      tx := some x, status := put bench.port.status 2 { current := some (frameOf 0x282), behind := some (frameOf 0x282) } } }
    let part (b : Byte) (held : Bool) (ws : List ExcerptRequest) : State := { bench with
      port := { bench.port with
        tx := some { holder := .excerpt, frame := { frameOf 0x2A5 with b0 := b }, restart := false, held := held }
        excerpts := [{ frameOf 0x2A5 with b0 := b }] }
      excerpt := { emission := some { request := { requester := 5, kind := .channels }, snapshot := [], placed := 1 }
                   waiting := ws } }
    behind.port.tx = some { holder := .answer, frame := frameOf 0x265, restart := false, held := true } ∧
    behind.port.answers = [queued 0x266] ++ { frame := frameOf 0x265, restart := false } :: [] ∧
    (∀ q ∈ [queued 0x266], q.frame.ident ≠ (frameOf 0x265).ident) ∧
    s.port.tx = some { holder := .status 2, frame := frameOf 0x282, restart := false, held := true } ∧
    (part 1 true []).port.excerpts = { frameOf 0x2A5 with b0 := 1 } :: [] ∧ (1 : Byte) ≠ 5 ∧
    (part 1 true []).excerpt.emission.isSome = true ∧ (part 5 true []).excerpt.waiting = [] ∧
    (part 5 true [{ requester := 2, kind := .roster }]).excerpt.waiting = { requester := 2, kind := .roster } :: [] ∧
    (part 1 false []).port.tx =
      some { holder := .excerpt, frame := { frameOf 0x2A5 with b0 := 1 }, restart := false, held := false } := by decide

/-- Error counts 127, 128, 247, 248 and 255; a status frame with one behind it, an excerpt frame, and the answer of a pending
restart, in transmission and waiting. -/
theorem test_witness_FailureCounts :
    let x (h : Holder) (r : Bool) : Transmission := { holder := h, frame := frameOf 0x282, restart := r, held := true }
    let place : StatusPlace := { current := some (frameOf 0x282), behind := some (frameOf 0x282) }
    let s (h : Holder) (r : Bool) (n : Nat) : State := { bench with port := { bench.port with
      tx := some (x h r), errorCount := n, status := put bench.port.status 2 place, excerpts := [frameOf 0x2A5] } }
    let w : State := { sending 255 with port := { (sending 255).port with
      answers := [queued 0x265, { frame := frameOf 0x266, restart := true }] } }
    (sending 255).port.tx = some sendingAnswer ∧ (sending 255).port.errorCount < 256 ∧
    (sending 247).port.errorCount < 248 ∧ (sending 127).port.errorCount < 128 ∧
    128 ≤ (sending 128).port.errorCount ∧ 248 ≤ (sending 248).port.errorCount ∧ sendingAnswer.restart = false ∧
    (∀ q ∈ (sending 248).port.answers, q.restart = false) ∧
    (s (.status 2) false 0).port.tx = some (x (.status 2) false) ∧ (x (.status 2) false).held = true ∧
    (s (.status 2) false 0).port.status[(2 : Fin 3)].behind ≠ none ∧
    (s .excerpt false 0).port.tx = some (x .excerpt false) ∧ (x .answer true).restart = true ∧
    248 ≤ (s .answer true 248).port.errorCount ∧ (∃ q ∈ w.port.answers, q.restart = true) ∧
    nextHas (.transmitFailure .arbitrationLost) (s (.status 2) false 0) (fun t =>
      t.port.status[(2 : Fin 3)] == { current := some (frameOf 0x282), behind := none }) = true ∧
    nextHas (.transmitFailure .busError) w (fun t => t.port.online && t.park.state == .applying) = true := by
  decide +kernel

theorem test_witness_RejoinsBus :
    let s : State := { bench with port := { bench.port with online := false, errorCount := 256, recovery := some 20000000 } }
    s.port.recovery = some 20000000 ∧ 20000000 ≤ s.clock.us := by decide

/-- ONLINE with nothing in transmission, and OFFLINE. -/
theorem test_witness_StatusFormed :
    let s : State := { bench with status := { bench.status with timer := 20000000 } }
    let u : State := { s with port := { s.port with online := false } }
    s.status.timer ≤ s.clock.us ∧ s.port.online = true ∧ s.port.tx = none ∧ u.status.timer ≤ u.clock.us ∧
    u.port.online = false := by decide

/-- The engine IDLE, with one request waiting, and with two; a range of the last slot, and a start past it; 7 and 8 answers
waiting. -/
theorem test_witness_ExcerptStarts :
    let busy (n : Nat) : State := { bench with excerpt :=
      { emission := some { request := { requester := 15, kind := .channels }, snapshot := [], placed := 1 }
        waiting := List.replicate n { requester := 15, kind := .roster } } }
    bench.port.online = true ∧ bench.roster[(5 : Address)].state = .enrolled ∧ excerptKindOf 0 31 8 = some (.range 31 1) ∧
    excerptKindOf 0 32 8 = none ∧ bench.excerpt.emission = none ∧ bench.port.excerpts = [] ∧
    (busy 1).excerpt.emission ≠ none ∧ (busy 1).excerpt.waiting.length < 2 ∧
    (busy 2).excerpt.emission ≠ none ∧ 2 ≤ (busy 2).excerpt.waiting.length ∧ (busy 2).port.online = true ∧
    bench.port.answers.length < 8 ∧ 8 ≤ (fullQueue bench).port.answers.length := by decide

/-- Each refusal: no configure permission, not in AUTO_PARK, during a STORE, and bad values of every kind; the ends of the
ranges of ids 10 and 14, a lowered Pmax and cycle window; an enable that rises and one that does not; and an accepted request
of each id of the scan-list group, on a spare record and on one of a list of 16. -/
theorem test_witness_SetParamWrites :
    let u : State := { bench with trip := { bench.trip with active := { TripSet.none with undervolt := true } } }
    let s : State := { u with settings := { u.settings with params := put u.settings.params 40 0 } }
    let spare : State := { bench with sampling := { bench.sampling with selector := 12 } }
    let long : State := { spare with sampling := { spare.sampling with length := 16 } }
    let window : State := { bench with sampling := { bench.sampling with selector := 6 } }
    (bench.port.online = true ∧ bench.roster[(5 : Address)].state = .enrolled ∧
      bench.roster[(5 : Address)].configure = true ∧ bench.coord.state = .autoPark ∧ bench.settings.store = none ∧
      ({ fullRecord with configure := false } : RosterRecord).configure = false ∧ rolling.coord.state ≠ .autoPark ∧
      ({ bench.settings with store := some { sender := 5, stop := 0 } } : Settings).store ≠ none) ∧
    (inRange 7 99 = false ∧ 10 ≤ bench.settings.params.slipOff ∧ bench.settings.params.slipOn ≤ 18 ∧
      bench.settings.params.holdMax < 401 ∧ 79 < bench.settings.params.holdMin ∧
      (∀ r : Fin 16, r.val < 12 → r ≠ 3 → bench.sampling.records[r].input ≠ 3) ∧
      bench.sampling.records[bench.sampling.selector].input.val < 6 ∧
      window.sampling.records[window.sampling.selector].low = 400) ∧
    (inRange 10 100 = true ∧ inRange 14 1 = true ∧ inRange 7 100 = true ∧
      100 < bench.settings.params.pmax (axleOf 0) ∧ inRange 36 60 = true ∧ 60 ≠ bench.settings.params.cycleWindow ∧
      (∀ k : CircuitId, decideMode bench.circuit[k].mode bench.circuit[k].causes = bench.circuit[k].mode) ∧
      bench.port.answers.length < 8) ∧
    (s.trip.active.undervolt = true ∧ s.settings.params.undervoltOn = false ∧ s.trip.tripped = false ∧
      s.coord.state = .autoPark ∧ u.settings.params.undervoltOn = true ∧
      nextHas (.setParam 5 41 1) s (fun t => t.trip.tripped && t.trip.latched.undervolt) = true ∧
      nextHas (.setParam 5 41 1) u (fun t => !t.trip.tripped) = true) ∧
    (bench.sampling.watchMode = false ∧ spare.sampling.length ≤ spare.sampling.selector.val ∧
      long.sampling.selector.val < long.sampling.length ∧
      (∀ k : Fin 12, ∃ q : Fin 16, q.val < 16 ∧ spare.sampling.records[q].input = k) ∧
      (∀ k : Fin 12, ∃ q : Fin 16, q.val < long.sampling.length ∧ q ≠ long.sampling.selector ∧
        long.sampling.records[q].input = k) ∧
      nextHas (.setParam 5 45 16) bench (fun t => t.sampling.length == 16 &&
        t.sampling.scan == some { record := 0, stop := 20000125 }) = true ∧
      nextHas (.setParam 5 46 11) long (fun t => t.sampling.records[(12 : Fin 16)].low == 160) = true ∧
      nextHas (.setParam 5 48 1000) window (fun t => t.sampling.records[(6 : Fin 16)].low == 1000) = true) := by
  decide +kernel

/-- hold_max 100, the foot of its range, and 399, with a FROZEN HOLD entry above both. -/
theorem test_witness_HoldMaxLowers :
    let s := withSlot bench 9 (some (entryOf 5 .hold .frozen 400 64))
    s.port.online = true ∧ s.roster[(5 : Address)].state = .enrolled ∧ s.roster[(5 : Address)].configure = true ∧
    s.coord.state = .autoPark ∧ s.settings.store = none ∧ 100 ≤ (100 : BitVec 16).toNat ∧
    s.settings.params.holdMin ≤ (100 : BitVec 16).toNat ∧ (399 : BitVec 16).toNat < s.settings.params.holdMax ∧
    (399 : BitVec 16).toNat ≤ 800 ∧
    (∀ k : CircuitId, decideMode s.circuit[k].mode s.circuit[k].causes = s.circuit[k].mode) ∧
    s.table[(9 : Slot)] = some (entryOf 5 .hold .frozen 400 64) := by decide

/-- Address 5 withdraws itself, address 15 keeping configure permission; its HOLD and its PARK entry stand. -/
theorem test_witness_RosterWithdrawn :
    let s := withSlot (withSlot bench 9 (some (entryOf 5 .hold .active 200 64))) 10 (some parkOf5)
    s.port.online = true ∧ s.roster[(5 : Address)].state = .enrolled ∧ s.roster[(5 : Address)].configure = true ∧
    s.coord.state = .autoPark ∧ s.settings.store = none ∧ (15 : Address) ≠ 5 ∧ s.roster[(15 : Address)].state ≠ .absent ∧
    s.roster[(15 : Address)].configure = true ∧ anyPark s.table = anyPark (put (put s.table 10 none) 9 none) := by decide

theorem test_witness_StoreStarts :
    bench.port.online = true ∧ bench.roster[(5 : Address)].state = .enrolled ∧ bench.roster[(5 : Address)].configure = true ∧
    bench.settings.store = none := by decide

/-- ONLINE with room in the queue, and OFFLINE. -/
theorem test_witness_StoreCompletes :
    let s : State := { bench with settings := { bench.settings with store := some { sender := 5, stop := 20000000 } } }
    s.settings.store = some { sender := 5, stop := 20000000 } ∧ 20000000 ≤ s.clock.us ∧ s.port.online = true ∧
    s.port.answers.length < 8 ∧ ({ s with port := { s.port with online := false } } : State).port.online = false := by decide

/-- Tripped by the cut-out line, which has been returned, and which has not; the circuits in FALLBACK by TRIP alone. -/
theorem test_witness_TripCleared :
    let s (active : Bool) : State := { bench with
      circuit := mapAll bench.circuit fun _ k => { k with mode := .fallback, causes := { k.causes with trip := true } }
      trip := { bench.trip with
        tripped := true, latched := { TripSet.none with cutLine := true }
        active := { TripSet.none with cutLine := active } } }
    (s false).port.online = true ∧ (s false).roster[(5 : Address)].state = .enrolled ∧
    (s false).roster[(5 : Address)].configure = true ∧ (s false).trip.tripped = true ∧ clearBlocked (s false) = false ∧
    clearBlocked (s true) = true ∧ (s true).port.answers.length < 8 ∧
    nextHas (.clearTrip 5) (s false) (fun t => backupOn t 1 && t.alloc.target[(2 : Channel)] == 338) = true := by decide

/-- COUNT 1 on channel 5. -/
theorem test_witness_ExerciseStarts :
    bench.port.online = true ∧ bench.roster[(5 : Address)].state = .enrolled ∧
    permits bench.roster[(5 : Address)].classes .test = true ∧
    bench.roster[(5 : Address)].scope.getLsbD (5 : Channel).val = true ∧ exerciseModeOf 0 1 = some (.count 1) ∧
    bench.exercise.running = false ∧ bench.vref = 0 ∧ bench.coord.state = .autoPark ∧ bench.trip.tripped = false ∧
    bench.circuit[circuitOf 5].mode = .electronic := by decide

/-- Address 5 stops the exercise of address 15, with 6 answers waiting. -/
theorem test_witness_ExerciseStops :
    let s : State := { bench with
      port := { bench.port with answers := List.replicate 6 (queued 0x265) }
      exercise := { running := true, owner := some 15, channel := some 4, mode := some .freeRun, owning := some 4,
                    next := .inlet, cycles := 65535, wrapped := true } }
    s.port.online = true ∧ s.roster[(5 : Address)].state = .enrolled ∧ permits s.roster[(5 : Address)].classes .test = true ∧
    s.exercise.running = true ∧ s.exercise.owner = some 15 ∧ s.exercise.channel = some 4 ∧ s.port.answers.length ≤ 6 := by
  decide

theorem test_witness_RestartPends :
    bench.port.online = true ∧ bench.roster[(5 : Address)].state = .enrolled ∧ bench.roster[(5 : Address)].configure = true ∧
    bench.vref = 0 ∧ bench.settings.store = none ∧ bench.settings.restartPending = false ∧ bench.port.answers.length < 8 := by
  decide

/-- With a valid image and with one whose checksum fails; the ignition off, and the cut-out active with the door OPEN. -/
theorem test_witness_ColdStarts :
    let dark : State := { bench with lines := { bench.lines with ignition := false } }
    let cut : State := { bench with lines := { bench.lines with cutOut := true }, door := { bench.door with raw := true } }
    bench.settings.image.valid = true ∧ bench.lines.ignition = true ∧ ({ factoryImage with valid := false } : Image).valid = false ∧
    dark.lines.ignition = false ∧ factoryParams.holdMin ≤ factoryParams.holdMax ∧ 1 ≤ bench.settings.image.length ∧
    nextHas .coldStart dark (fun t => t.coord.state == .securing && slotValue t.table 3 == 400) = true ∧
    nextHas .coldStart cut (fun t => t.trip.tripped && t.coord.state == .autoPark && t.table[(1 : Slot)].isSome) = true := by
  decide +kernel

theorem test_witness_DebounceStarts : bench.door.raw ≠ true ∧ bench.parkSwitch.raw ≠ true := by decide

/-- CLOSED to OPEN at v_ref 30, with slot 1 vacant and RETIRING, and OPEN to CLOSED with the door hold ACTIVE; the park switch
ON as the first and as a further PARK entry, and OFF as the last and as one of two; and both in SECURING. -/
theorem test_witness_DoorPostsHold :
    let s : State := { standing bench .run with vref := 30, door := { raw := true, state := false, timer := some 20000000 } }
    let h := { entryOf 17 .hold .active 250 64 with gate := some 30 }
    let old : State := withSlot s 1 (some { h with state := .retiring })
    let u : State := { withSlot bench 1 (some h) with door := { raw := false, state := true, timer := some 20000000 } }
    let p : Entry := { parkOf5 with source := 18 }
    let on (x : State) : State := { x with parkSwitch := { raw := true, state := false, timer := some 20000000 } }
    let off (x : State) : State :=
      { withSlot x 2 (some p) with parkSwitch := { raw := false, state := true, timer := some 20000000 } }
    (s.door.timer = some 20000000 ∧ 20000000 ≤ s.clock.us ∧ s.coord.state ≠ .securing ∧ s.coord.state ≠ .secured ∧
      s.door.raw = true ∧ s.door.state = false ∧ s.table[(1 : Slot)] = none) ∧
    (old.table[(1 : Slot)] = some { h with state := .retiring } ∧ old.door.raw = true ∧ old.door.state = false) ∧
    (u.door.timer = some 20000000 ∧ u.door.raw = false ∧ u.door.state = true ∧ u.table[(1 : Slot)] = some h ∧
      h.cls = .hold ∧ h.state = .active) ∧
    ((on rolling).parkSwitch.timer = some 20000000 ∧ (on rolling).table[(2 : Slot)] = none ∧
      (on rolling).coord.state = .run ∧ anyPark (on rolling).table = false ∧ (on rolling).park.state = .released ∧
      anyPark (on bench).table = true ∧ (on bench).coord.state = .autoPark) ∧
    ((off bench).table[(2 : Slot)] = some p ∧ p.cls = .park ∧ p.state = .active ∧
      anyPark (put (off bench).table 2 none) = true ∧
      anyPark (put (off (withSlot bench 4 none)).table 2 none) = false ∧
      (off (withSlot bench 4 none)).park.state = .applied ∧ (off rolling).park.state ≠ .applied ∧
      bench.settings.params.releaseReserve ≤ supply bench.sampling 1 ∧ bench.circuit[1].mode = .electronic) ∧
    (standing u .securing).coord.state = .securing ∧ (standing u .securing).door.timer = some 20000000 := by
  decide +kernel

/-- Travel 50, the end of the dead travel, and 16 spring cycles. -/
theorem test_witness_DriveOffReleases :
    let s : State := { bench with pedal := { bench.pedal with travel := some 50 }
                                  coord := { bench.coord with springCycles := List.replicate 16 7 } }
    s.lines.drive = false ∧ s.coord.state = .autoPark ∧ s.exercise.running = false ∧ s.pedal.travel = some 50 ∧ 50 ≤ 50 ∧
    s.vref = 0 ∧ (s.table[(4 : Slot)].map fun e => (e.cls, e.state)) = some (.park, .active) ∧
    anyPark (put s.table 4 none) = false ∧ s.table[(3 : Slot)] = none ∧ s.park.state = .applied ∧
    s.settings.params.releaseReserve ≤ supply s.sampling 1 ∧ s.circuit[1].mode = .electronic := by decide

/-- The springs at PARK_FAULT, and APPLIED; the ignition off at v_ref 300, and the timeout of the one wheel that turns. -/
theorem test_witness_IgnitionOffSecures :
    let s : State := { bench with park := { appliedPark with state := .parkFault, fault := true, retryTimer := some 30000000 } }
    let w : Wheel := { bench.wheel[(2 : Channel)] with
      speed := 300, lastCapture := some 300000, toothTimer := some 500000 }
    let m (st : Standstill) (x : State) : State := { standing x st with
      vref := 300, wheel := put bench.wheel 2 w
      coord := { (standing x st).coord with ignitionOffPending := true } }
    let still : State := withSlot rolling 4 (some { parkOf5 with source := 19 })
    (s.lines.ignition = true ∧ s.coord.state = .autoPark ∧ s.exercise.running = false ∧ s.vref = 0 ∧
      s.table[(4 : Slot)] ≠ none ∧ s.settings.params.holdMin ≤ s.settings.params.holdMax ∧ s.park.state ≠ .applied ∧
      bench.park.state = .applied ∧ bench.lines.ignition = true ∧ bench.table[(4 : Slot)] ≠ none) ∧
    ((m .run rolling).lines.ignition = true ∧ 0 < (m .run rolling).vref ∧ (m .run rolling).coord.state = .run ∧
      (m .run still).wheel[(2 : Channel)].toothTimer = some 500000 ∧
      ((m .run still).clock.capture - (500000 : Capture)).toNat < 8388608 ∧
      (∀ d : Channel, d ≠ 2 → (m .run still).wheel[d].suspect = false → (m .run still).wheel[d].speed = 0) ∧
      (m .run still).table[(4 : Slot)] ≠ none ∧ (m .run still).park.state ≠ .applied ∧
      (m .autoPark bench).park.state = .applied ∧
      nextHas (.toothTimeout 2) (m .run still) (fun t => t.coord.state == .securing) = true ∧
      nextHas (.toothTimeout 2) (m .autoPark bench) (fun t => t.coord.state == .secured) = true) := by decide +kernel

/-- SECURED; and SECURING with slot 3 at hold_max, the door OPEN with slot 1 vacant, and the park switch OFF with slot 2
standing. -/
theorem test_witness_WakeReturns :
    let dark (st : Standstill) (x : State) : State := { standing x st with lines := { x.lines with ignition := false } }
    let s : State := dark .secured bench
    let h := { entryOf 19 .hold .active 400 64 with lifetime := none, deadline := none }
    let p : Entry := { parkOf5 with source := 18 }
    let u : State := { dark .securing (withSlot (withSlot bench 3 (some h)) 2 (some p)) with
      park := { appliedPark with state := .applying, step := some .confirm }
      door := { raw := true, state := true, timer := none } }
    (s.lines.ignition = false ∧ s.coord.state = .secured ∧ s.table[(3 : Slot)] = none) ∧
    (u.lines.ignition = false ∧ u.coord.state = .securing ∧ (u.table[(4 : Slot)].map Entry.cls) = some .park ∧
      u.park.state ≠ .applied ∧ u.table[(3 : Slot)] = some h ∧ h.cls = .hold ∧ h.state = .active ∧
      u.door.state = true ∧ u.table[(1 : Slot)] = none ∧ u.table[(2 : Slot)] = some p ∧ u.parkSwitch.state = false ∧
      nextHas (.ignitionChange true) u (fun t => t.coord.state == .autoPark && t.table[(1 : Slot)].isSome &&
        t.table[(2 : Slot)].isNone && t.table[(3 : Slot)] == some h && t.park == u.park) = true) := by decide +kernel

theorem test_witness_CutOutTrips :
    bench.lines.cutOut = false ∧ bench.trip.active.cutLine = false ∧ bench.trip.tripped = false := by decide

/-- A first edge, an edge with a last capture, and two in one microsecond; the creep edges of each state, slot 3 at hold_max
and 1 below; and a fourth rolling edge exactly 2000 ms after the first, and one a microsecond later. -/
theorem test_witness_EdgeGivesSpeed :
    let s (l : Capture) : State := { bench with wheel := put bench.wheel 2 { bench.wheel[(2 : Channel)] with
      lastCapture := some l } }
    let creep (st : Standstill) (v : Nat) : State := { withSlot bench 3 (some (entryOf 19 .hold .active v 64)) with
      coord := { bench.coord with state := st, edges := #v[0, 0, 1, 0, 0, 0] } }
    let roll (x : Nat) : State := { bench with coord := { bench.coord with
      state := .secured, rolling := put bench.coord.rolling 2 [x, 19000000, 19500000] } }
    let fast : Wheel := { bench.wheel[(3 : Channel)] with speed := 1500 }
    let turning : State := { bench with
      vref := 1500
      wheel := put (put bench.wheel 2 { bench.wheel[(2 : Channel)] with lastCapture := some 499000 }) 3 fast }
    bench.wheel[(2 : Channel)].lastCapture = none ∧ (s 497000).wheel[(2 : Channel)].lastCapture = some 497000 ∧
    (s 500000).wheel[(2 : Channel)].lastCapture = some (s 500000).clock.capture ∧
    bench.vref = referenceSpeed (put bench.wheel 2 { bench.wheel[(2 : Channel)] with speed := 0 }) ∧
    bench.coord.state = .autoPark ∧ bench.coord.armed = true ∧
    bench.coord.edges[(2 : Channel)] = 0 ∧ bench.table[(3 : Slot)] = none ∧
    (creep .stopHold 399).coord.armed = true ∧ 1 ≤ (creep .stopHold 399).coord.edges[(2 : Channel)] ∧
    (creep .stopHold 399).table[(3 : Slot)] = some (entryOf 19 .hold .active 399 64) ∧
    399 < (creep .stopHold 399).settings.params.holdMax ∧ (creep .creepHold 400).settings.params.holdMax ≤ 400 ∧
    (creep .creepHold 400).park.state = .applied ∧
    nextHas (.toothEdge 2) (creep .autoPark 350) (fun t => t.coord.state == .creepHold && slotValue t.table 3 == 350) = true ∧
    nextHas (.toothEdge 2) (creep .autoPark 250) (fun t => t.coord.state == .creepHold && slotValue t.table 3 == 300) = true ∧
    turning.wheel[(2 : Channel)].lastCapture = some 499000 ∧
    turning.vref = referenceSpeed (put turning.wheel 2 { turning.wheel[(2 : Channel)] with
      speed := min 1500 (3200 * 36000 / (80 * 1000)) }) ∧ turning.settings.params.circumference (axleOf 2) = 3200 ∧
    3 ≤ ((roll 18000000).coord.rolling[(2 : Channel)].filter
      (fun x => (roll 18000000).clock.us ≤ x + 2000000)).length ∧
    ((roll 17999999).coord.rolling[(2 : Channel)].filter
      (fun x => (roll 17999999).clock.us ≤ x + 2000000)).length < 3 := by decide +kernel

/-- The tooth timer due exactly, 200 ms after the last edge. -/
theorem test_witness_TimeoutEndsRun :
    let s : State := { bench with wheel := put bench.wheel 2 { bench.wheel[(2 : Channel)] with
      lastCapture := some 300000, interval := some 150000, toothTimer := some 500000, speed := 9 } }
    s.wheel[(2 : Channel)].toothTimer = some 500000 ∧ (s.clock.capture - (500000 : Capture)).toNat < 8388608 ∧
    s.wheel[(2 : Channel)].lastCapture = some (s.clock.capture - 200000) := by decide +kernel

theorem test_witness_SuspectTimers :
    let s : State := { bench with wheel := put (put bench.wheel 4 { bench.wheel[(4 : Channel)] with
      setTimer := some 20000000 }) 5 { bench.wheel[(5 : Channel)] with suspect := true, clearTimer := some 20000000 } }
    20000000 ≤ s.clock.us ∧ s.wheel[(4 : Channel)].setTimer = some 20000000 ∧
    s.wheel[(5 : Channel)].clearTimer = some 20000000 := by decide

/-- Targets at Pmax with no EMERGENCY entry, an ACTIVE, a FROZEN and a RETIRING entry; DL's point INVALID with the front
circuit in FALLBACK; a contributing EMERGENCY entry; and slip control at 40.0 km/h: FL at slip on, DL dumped for the 50th
period, the tag pair at the last period of HOLD with the chambers below the targets. -/
theorem test_witness_AllocationBounds :
    let b := withSlot (withSlot bench 9 (some (entryOf 5 .service .active 120 0))) 10
      (some (entryOf 5 .hold .frozen 120 64))
    let s : State := { withSlot b 11 (some (entryOf 5 .test .retiring 120 4)) with
      alloc := { bench.alloc with timer := 20000000, target := #v[650, 650, 750, 750, 600, 600] } }
    let u : State := { s with
      circuit := put s.circuit 0 { electronicCircuit with mode := .fallback }
      sampling := { s.sampling with inputs := put s.sampling.inputs 2 { reading 338 with
        current := some { value := none, window := none } } } }
    let e := { entryOf 2 .emergency .active 600 64 with deadline := none }
    let z : State := { withSlot s 5 (some e) with
      vref := 400
      wheel := #v[{ bench.wheel[(0 : Channel)] with speed := 328 }, { bench.wheel[(0 : Channel)] with speed := 400 },
        { bench.wheel[(0 : Channel)] with speed := 360 }, { bench.wheel[(0 : Channel)] with speed := 361 },
        { bench.wheel[(0 : Channel)] with speed := 400 }, { bench.wheel[(0 : Channel)] with speed := 400 }]
      slip := { bench.slip with group := #v[{ phase := .follow, dump := 0, hold := 0 },
        { phase := .follow, dump := 0, hold := 0 }, { phase := .dump, dump := 50, hold := 0 },
        { phase := .dump, dump := 1, hold := 0 }, { phase := .hold, dump := 0, hold := 3 }] } }
    s.alloc.timer ≤ s.clock.us ∧ (∀ c : Channel, s.alloc.target[c] ≤ s.settings.params.pmax (axleOf c)) ∧
    (∀ i : Slot, (s.table[i].all fun e => e.cls != .emergency) = true) ∧
    u.alloc.timer ≤ u.clock.us ∧ u.circuit[circuitOf 0].mode ≠ .electronic ∧ pressureInvalid u.sampling 2 = true ∧
    nextHas .allocationPeriod u (fun t => reportedPhase t.slip 2 == .follow) = true ∧
    (z.alloc.timer ≤ z.clock.us ∧ e.cls = .emergency ∧ e.contributes 0 z.vref = true ∧ 0 < (600 * 64 + 32) / 64 ∧
      (∀ k : Fin 5, z.circuit[groupCircuit k].mode = .electronic) ∧ z.slip.tlJoined = true ∧ z.slip.trJoined = true ∧
      (∀ k : Fin 5, ∀ c ∈ groupChannels k, z.slip.fault[c] = false ∧ z.wheel[c].suspect = false) ∧
      z.settings.params.slipOn ≤ (400 - 328) * 100 / 400 ∧ z.settings.params.slipOff ≤ (400 - 360) * 100 / 400 ∧
      (400 - 361) * 100 / 400 < z.settings.params.slipOff) ∧
    nextHas .allocationPeriod z (fun t =>
      t.slip.group == #v[{ phase := .dump, dump := 1, hold := 0 }, { phase := .follow, dump := 0, hold := 0 },
        { phase := .follow, dump := 0, hold := 0 }, { phase := .hold, dump := 0, hold := 1 },
        { phase := .reapply, dump := 0, hold := 0 }] &&
      t.slip.fault == #v[false, false, true, false, false, false] && t.slip.reapply == #v[0, 0, 0, 0, 236, 236]) = true := by
  decide +kernel

/-- Raw 410 and 4013 of the front supply; DL of the ELECTRONIC rear circuit with count 4; the park chamber at 49, 50, 550 and
551 kPa in each window, in SECURING and in AUTO_PARK; and the supply voltage, record 11 of 12, at raw 1633 and 1634. -/
theorem test_witness_ConversionRecorded :
    let s (r : Fin 16) : State := { bench with sampling := { bench.sampling with
      scan := some { record := r, stop := 20000000 } } }
    let d : State := { s 2 with trip := { bench.trip with overpressure := put bench.trip.overpressure 2 4 } }
    let w (st : ParkState) (wanted : Bool) : State := { s 8 with park := { appliedPark with
      state := st, step := some .confirm, confirmTimer := some 21000000, wanted := wanted } }
    let secure : State := standing (w .applying true) .securing
    let hold : State := withSlot (w .applying true) 3 (some (entryOf 19 .hold .active 342 64))
    let pedals := put (put bench.sampling.inputs 9 (reading 300)) 10 (reading 639)
    let apart : State := { s 11 with
      pedal := { bench.pedal with disagreeRun := 2 }, sampling := { (s 11).sampling with inputs := pedals } }
    let release : State := { withSlot (s 7) 4 none with park := { appliedPark with wanted := false, withheld := true } }
    let night (r : Fin 16) : State := { standing (s r) .secured with
      circuit := mapAll bench.circuit fun _ k => { k with mode := .resting }
      sampling := { (s r).sampling with watchMode := true } }
    (s 6).sampling.scan = some { record := 6, stop := 20000000 } ∧ 20000000 ≤ (s 6).clock.us ∧
    (s 6).sampling.watchMode = false ∧ (s 6).sampling.records[(6 : Fin 16)].input = 6 ∧
    (6 : Fin 16).val + 1 < (s 6).sampling.length ∧ (7 : Fin 16).val = (6 : Fin 16).val + 1 ∧
    410 ≤ (410 : BitVec 12).toNat ∧ (4013 : BitVec 12).toNat ≤ 4013 ∧
    (∀ k : CircuitId, decideMode (s 6).circuit[k].mode (s 6).circuit[k].causes = (s 6).circuit[k].mode) ∧
    (d.sampling.records[(2 : Fin 16)].input.val = (2 : Channel).val ∧ d.circuit[circuitOf 2].mode = .electronic ∧
      d.settings.params.pmax (axleOf 2) + 80 < min 1000 ((((4013 : BitVec 12).toNat - 410) * 1000 + 1638) / 3276) ∧
      5 = min 5 (d.trip.overpressure[(2 : Channel)] + 1)) ∧
    ((w .applying true).sampling.records[(8 : Fin 16)].input = 8 ∧ (8 : Fin 16).val + 1 < (s 8).sampling.length ∧
      convert 8 571 = some 49 ∧ convert 8 574 = some 50 ∧ convert 8 2212 = some 550 ∧ convert 8 2216 = some 551 ∧
      (w .applying true).park.step = some .confirm ∧ (w .applying true).park.wanted = true ∧
      (w .applying true).park.withheld = false ∧ (w .releasing false).park.state = .releasing ∧
      (w .releasing false).park.wanted = decide ((w .releasing false).park.state = .applying) ∧
      secure.coord.state = .securing ∧ hold.coord.state = .autoPark ∧
      hold.table[(3 : Slot)] = some (entryOf 19 .hold .active 342 64)) ∧
    ((s 11).sampling.records[(11 : Fin 16)].input = 11 ∧ (11 : Fin 16).val + 1 = (s 11).sampling.length ∧
      ((1633 : BitVec 12).toNat * 400 + 2048) / 4096 < 160 ∧ ¬ ((1634 : BitVec 12).toNat * 400 + 2048) / 4096 < 160) ∧
    (release.park.withheld = true ∧ release.park.state = .applied ∧ anyPark release.table = false ∧
      release.sampling.records[(7 : Fin 16)].input = 7 ∧ (7 : Fin 16).val + 1 < release.sampling.length ∧
      release.settings.params.releaseReserve = 620 ∧ convert 7 2441 = some 620 ∧ convert 7 2439 = some 619 ∧
      nextHas (.conversionComplete 2441) release (fun t => t.park.state == .releasing) = true ∧
      nextHas (.conversionComplete 2439) release (fun t => t.park.state == .applied && t.park.withheld) = true) ∧
    ((night 8).sampling.watchMode = true ∧ (night 8).coord.state = .secured ∧
      (∀ k : CircuitId, (night 8).circuit[k].mode = .resting) ∧ (night 8).park.step ≠ some .confirm ∧
      (night 8).sampling.records[(8 : Fin 16)].high = 50 ∧
      nextHas (.conversionComplete 574) (night 8) (fun t => t.park.state == .applied && t.sampling.scan.isSome) = true ∧
      nextHas (.conversionComplete 577) (night 8) (fun t => t.park.state == .applying) = true ∧
      nextHas (.conversionComplete 0) (night 11) (fun t => t.sampling.scan.isNone &&
        t.port.status[(0 : Fin 3)].current.isSome) = true) ∧
    nextHas (.conversionComplete 3000) apart (fun t => t.pedal.disagree && t.pedal.travel == some 361) = true := by
  decide +kernel

/-- IDLE and SCANNING triggers; a watch timer with the factory's first flagged record 6, and with none flagged. -/
theorem test_witness_ScanTimers :
    let idle : State := { bench with sampling := { bench.sampling with scan := none, trigger := some 20000000 } }
    let busy : State := { bench with sampling := { bench.sampling with trigger := some 20000000 } }
    let watch : State := { bench with sampling := { bench.sampling with
      scan := none, trigger := none, watchMode := true, watchTimer := some 20000000 } }
    let none' : State := { watch with sampling := { watch.sampling with records := Vector.replicate 16 (pressurePoint 0) } }
    20000000 ≤ bench.clock.us ∧
    (idle.sampling.trigger = some 20000000 ∧ idle.sampling.scan = none ∧ idle.sampling.watchMode = false ∧
      1 ≤ idle.sampling.length) ∧
    (busy.sampling.trigger = some 20000000 ∧ busy.sampling.scan ≠ none) ∧
    (watch.sampling.watchTimer = some 20000000 ∧ watch.sampling.scan = none ∧ watch.sampling.watchMode = true ∧
      (6 : Fin 16).val < watch.sampling.length ∧ watch.sampling.records[(6 : Fin 16)].watch = true ∧
      (∀ q : Fin 16, q < 6 → watch.sampling.records[q].watch = false)) ∧
    (none'.sampling.watchTimer = some 20000000 ∧ ∀ q : Fin 16, none'.sampling.records[q].watch = false) := by decide

/-- Enabled, and disabled. -/
theorem test_witness_StallTrips :
    let s : State := { bench with trip := { bench.trip with stallTimer := some 20000000 } }
    let u : State := { s with settings := { s.settings with params := setParam factoryParams 43 0 } }
    s.trip.stallTimer = some 20000000 ∧ 20000000 ≤ s.clock.us ∧ s.trip.active.scanStall = false ∧ s.trip.tripped = false ∧
    s.settings.params.scanStallOn = true ∧ u.settings.params.scanStallOn = false ∧ u.trip.stallTimer = some 20000000 ∧
    (∀ k : CircuitId, decideMode u.circuit[k].mode u.circuit[k].causes = u.circuit[k].mode) := by decide

/-- DL's exhaust pulse after an inlet pulse is formed, on DR an inlet pulse ends where the next begins, and the front
circuit's channels are cut; and an exercise of TL in either direction. -/
theorem test_witness_ModulationForms :
    let p : Pulse := { valve := .inlet, start := 19984000, stop := 20000000 }
    let chan := put (put bench.valve.chan 2 { bench.valve.chan[(2 : Channel)] with
      buffer := { dir := .release, duty := 29 }, last := some { valve := .inlet, stop := 19999000 } }) 3
      { bench.valve.chan[(3 : Channel)] with
        buffer := { dir := .apply, duty := 100 }, last := some { valve := .inlet, stop := 20000000 }, running := some p }
    let s : State := { bench with
      circuit := put bench.circuit 0 { electronicCircuit with mode := .fallback }
      valve := { timer := 20000000, chan := chan } }
    let x (v : Valve) : State := { s with exercise :=
      { running := true, owner := some 15, channel := some 4, mode := some (.count 1), owning := some 4, next := v,
        cycles := 0, wrapped := false } }
    s.valve.timer ≤ s.clock.us ∧ s.exercise.running = false ∧ outputsCut s 0 = true ∧ outputsCut s 2 = false ∧
    s.valve.chan[(2 : Channel)].buffer.dir = .release ∧ s.valve.chan[(3 : Channel)].running = some p ∧
    nextHas .modulationPeriodStart s (fun t =>
      t.valve.chan[(2 : Channel)].waiting == some { valve := .exhaust, start := 20002000, stop := 20006600 } &&
      t.valve.chan[(3 : Channel)].waiting == some { valve := .inlet, start := 20000000, stop := 20016000 } &&
      t.valve.chan[(3 : Channel)].running == some p) = true ∧
    (x .exhaust).exercise.running = true ∧ (x .exhaust).exercise.channel = some 4 ∧ (x .exhaust).exercise.next = .exhaust ∧
    outputsCut (x .inlet) 4 = false ∧ nextHas .modulationPeriodStart (x .exhaust) (fun t => !t.exercise.running) = true := by
  decide +kernel

/-- A pulse to begin, a pulse over within its period, and one that meets its like at the period end. -/
theorem test_witness_PulseBeginsEnds :
    let p : Pulse := { valve := .inlet, start := 19984000, stop := 20000000 }
    let two : ChannelDrive := { bench.valve.chan[(2 : Channel)] with waiting := some p }
    let three : ChannelDrive := { bench.valve.chan[(3 : Channel)] with running := some p }
    let s : State := { bench with valve := { timer := 20000001, chan := put (put bench.valve.chan 2 two) 3 three } }
    let full : ChannelDrive := { bench.valve.chan[(3 : Channel)] with
      buffer := { dir := .apply, duty := 100 }, last := some { valve := .inlet, stop := 20000000 }, running := some p }
    let u : State := { bench with valve := { timer := 20000000, chan := put bench.valve.chan 3 full } }
    s.valve.chan[(2 : Channel)].waiting = some p ∧ p.start ≤ s.clock.us ∧ s.valve.chan[(3 : Channel)].running = some p ∧
    p.stop ≤ s.clock.us ∧ p.stop ≠ s.valve.timer ∧ s.valve.chan[(3 : Channel)].waiting = none ∧
    u.valve.chan[(3 : Channel)].running = some p ∧ p.stop = u.valve.timer ∧ 1 ≤ u.settings.params.modulationPeriod ∧
    nextHas .modulationPeriodStart u (fun t => t.valve.chan[(3 : Channel)].waiting ==
      some { valve := .inlet, start := 20000000, stop := 20016000 }) = true := by decide +kernel

/-- A pulse of 100 % that meets its like keeps the inlet energised, whether its end or the period start is taken first
(R137). -/
theorem test_boundary :
    let p : Pulse := { valve := .inlet, start := 19984000, stop := 20000000 }
    let full : ChannelDrive := { bench.valve.chan[(3 : Channel)] with
      buffer := { dir := .apply, duty := 100 }, last := some { valve := .inlet, stop := 20000000 }, running := some p }
    let u : State := { bench with valve := { timer := 20000000, chan := put bench.valve.chan 3 full } }
    nextHas (.modulatorPulseEnd 3) u (fun t => inletOn t 3 && nextHas .modulationPeriodStart t (fun v => inletOn v 3 &&
      nextHas (.modulatorPulseStart 3) v (fun w => inletOn w 3 && !pulseEndDue w 3))) = true ∧
    nextHas .modulationPeriodStart u (fun t => inletOn t 3 &&
      nextHas (.modulatorPulseEnd 3) t (fun v => inletOn v 3 && !pulseEndDue v 3)) = true ∧
    nextHas .modulationPeriodStart
      { u with valve := { u.valve with chan := alter u.valve.chan 3 fun d => { d with buffer := holdCommand } } }
      (fun t => !inletOn t 3) = true := by decide +kernel

/-- One state for each of the six clauses; the windows after pulses 2 and 3. -/
theorem test_witness_ParkTimers :
    let s (p : Park) : State := { bench with park := p }
    let pulse (st : ParkState) (pending : Bool) : Park := { appliedPark with
      state := st, step := some .pulse, pulseTimer := some 20000000, applyPending := pending, pulses := 1 }
    let window (n : Nat) : Park := { appliedPark with
      state := .applying, step := some .confirm, confirmTimer := some 20000000, pulses := n }
    20000000 ≤ bench.clock.us ∧
    ((s (pulse .applying false)).park.pulseTimer = some 20000000 ∧ (s (pulse .applying false)).park.state = .applying) ∧
    ((s (pulse .releasing false)).park.state = .releasing ∧ (s (pulse .releasing false)).park.applyPending = false) ∧
    (s (pulse .releasing true)).park.applyPending = true ∧
    ((s (window 2)).park.confirmTimer = some 20000000 ∧ (s (window 2)).park.pulses < 3) ∧ 3 ≤ (s (window 3)).park.pulses ∧
    (let r := s { appliedPark with state := .parkFault, fault := true, retryTimer := some 20000000 }
     r.park.retryTimer = some 20000000 ∧ r.park.state = .parkFault ∧ r.park.wanted = true) := by decide

/-- The drive pressures at hold_min, and the drive request active. -/
theorem test_witness_SettleExpires :
    let s : State := { rolling with
      coord := { rolling.coord with settleTimer := some 20000000 }
      sampling := { rolling.sampling with inputs := put (put rolling.sampling.inputs 2 (reading 80)) 3 (reading 0) } }
    let u : State := { s with lines := { s.lines with drive := true } }
    s.coord.settleTimer = some 20000000 ∧ 20000000 ≤ s.clock.us ∧ s.coord.state = .run ∧
    s.settings.params.holdMin ≤ max (measured s.sampling 2) (measured s.sampling 3) ∧ s.settings.params.autoHold = true ∧
    s.circuit[0].mode = .electronic ∧ s.circuit[1].mode = .electronic ∧ s.lines.drive = false ∧
    s.table[(3 : Slot)] = none ∧ u.lines.drive = true ∧ u.coord.state = .run := by decide

/-- Five entries and the supply at the reserve of 620; the supply at 619; six entries. -/
theorem test_witness_DwellExpires :
    let s (n v : Nat) : State := { rolling with
      coord := { rolling.coord with state := .stopHold, dwellTimer := some 20000000, springCycles := List.replicate n 7 }
      sampling := { rolling.sampling with inputs := put rolling.sampling.inputs 7 (reading v) } }
    (s 5 620).coord.dwellTimer = some 20000000 ∧ 20000000 ≤ (s 5 620).clock.us ∧ (s 5 620).coord.state = .stopHold ∧
    (s 5 620).settings.params.releaseReserve ≤ supply (s 5 620).sampling 1 ∧
    (s 5 620).coord.springCycles.length < (s 5 620).settings.params.cycleBudget ∧ (s 5 620).table[(4 : Slot)] = none ∧
    anyPark (s 5 620).table = false ∧ (s 5 620).park.state = .released ∧
    supply (s 5 619).sampling 1 < (s 5 619).settings.params.releaseReserve ∧
    (s 6 620).settings.params.cycleBudget ≤ (s 6 620).coord.springCycles.length := by decide

/-- CREEP_HOLD with slot 3 ACTIVE and the springs APPLIED, and STOP_HOLD. -/
theorem test_witness_QuietWindowEnds :
    let h := { entryOf 19 .hold .active 400 64 with lifetime := none, deadline := none }
    let s (st : Standstill) : State := { withSlot bench 3 (some h) with
      coord := { bench.coord with state := st, quietTimer := some 20000000 } }
    (s .creepHold).coord.quietTimer = some 20000000 ∧ 20000000 ≤ (s .creepHold).clock.us ∧
    (s .creepHold).coord.state = .creepHold ∧ (s .creepHold).table[(3 : Slot)] = some h ∧ h.state = .active ∧
    (s .creepHold).park.state = .applied ∧ (s .stopHold).coord.state = .stopHold := by decide

theorem test_witness_DriveOffUndone :
    let s : State := { rolling with
      park := { appliedPark with wanted := false, withheld := true }
      coord := { rolling.coord with withheldTimer := some 20000000, watchOpen := true } }
    s.coord.withheldTimer = some 20000000 ∧ 20000000 ≤ s.clock.us ∧ s.coord.state = .run ∧ anyPark s.table = false ∧
    s.table[(3 : Slot)] = none ∧ s.table[(4 : Slot)] = none ∧ s.park.state = .applied := by decide

/-- An age of exactly the cycle window, across the wrap of the time counter. -/
theorem test_witness_SpringCycleExpires :
    let s : State := { bench with coord := { bench.coord with springCycles := [4294368296, 5] } }
    s.coord.springCycles = (4294368296 : Ms) :: [5] ∧
    s.settings.params.cycleWindow * 1000 ≤ (s.clock.ms - (4294368296 : Ms)).toNat := by decide +kernel

/-- A state that meets the invariants, with a step that changes it. -/
theorem test_witness_invariants :
    let s : State := { bench with pending := [.brakeCutOutChange true] }
    (∀ c : Channel, outputsCut s c = true → s.valve.chan[c].running = none ∧ s.valve.chan[c].waiting = none) ∧
    s.trip.tripped = false ∧ s.coord.state ≠ .secured ∧ queuesBounded s ∧
    (∀ k : CircuitId, s.circuit[k].mode ≠ .resting → s.circuit[k].mode = decideMode s.circuit[k].mode s.circuit[k].causes) ∧
    s.sampling.watchMode = decide (s.coord.state = .secured) ∧
    (∀ c : Channel, s.alloc.target[c] ≤ s.settings.params.pmax (axleOf c)) ∧
    s.settings.params.holdMin ≤ s.settings.params.holdMax ∧
    s.settings.image.params.holdMin ≤ s.settings.image.params.holdMax ∧
    (∀ i : Slot, (s.table[i].all fun e => decide (placed i e.source e.cls)) = true) ∧
    (s.table[(0 : Slot)].isSome && s.table[(4 : Slot)].isSome &&
      (List.finRange 32).all fun i => i == 0 || i == 4 || s.table[i].isNone) = true ∧
    (∀ i : Slot, (s.table[i].all fun e => decide (e.blend ≤ 64)) = true) ∧
    (match step s with
      | .next t => t.trip.tripped
      | .fault _ => false
      | .refused _ => false) = true := by
  simp only [queuesBounded]
  decide

/-- A SECURED bus whose table holds the PARK entry alone takes a step. -/
theorem test_witness_SecuredHoldsParksOnly :
    let s : State := { withSlot (standing bench .secured) 0 none with pending := [.post 5 2 0x3F 120 15 0 0] }
    s.coord.state = .secured ∧ (∀ i : Slot, (s.table[i].all fun e => e.cls == .park) = true) ∧
    (match step s with
      | .next t => t.table == s.table && (t.port.answers.map fun q => q.frame.b2) == [13]
      | .fault _ => false
      | .refused _ => false) = true := by decide

/-- A tripped bus at which the cut-out line is returned, with a SLIP_FAULT and a speed on DR. -/
theorem test_witness_latches :
    startsCold (sending 247) (.transmitFailure .busError) = false ∧ startsCold (sending 0) .transmitComplete = false ∧
    startsCold bench (.restart 5) = false ∧
    let s : State := { bench with
      lines := { bench.lines with cutOut := true }
      trip := { bench.trip with tripped := true, latched := { TripSet.none with cutLine := true, undervolt := true }
                                active := { TripSet.none with cutLine := true } }
      slip := { bench.slip with fault := put bench.slip.fault 3 true }
      wheel := put bench.wheel 3 { bench.wheel[(3 : Channel)] with speed := 300 } }
    startsCold s (.brakeCutOutChange false) = false ∧ (∀ a : Address, (Instr.brakeCutOutChange false) ≠ .clearTrip a) ∧
    (Instr.brakeCutOutChange false) ≠ .toothEdge 3 ∧ (Instr.brakeCutOutChange false) ≠ .toothTimeout 3 ∧
    s.trip.tripped = true ∧ s.trip.latched.undervolt = true ∧ s.slip.fault[(3 : Channel)] = true ∧
    nextHas (.brakeCutOutChange false) s (fun t => t.trip.tripped && t.trip.active == TripSet.none &&
      t.trip.latched == { TripSet.none with cutLine := true, undervolt := true }) = true := by decide

end Sys2Proof.Tests
end

section
/-!
PROOFS. What the operations of the demand table leave standing in every slot, said once: an entry's successor, fresh
entries, and the bundle of table properties every operation keeps (R1 to R3, R17, R18).
-/

namespace Sys2Proof.Machine

open Sys2Proof.Safety

-- One theorem after another: elaborated all at once they need more thread stacks than the check's memory limit grants.
set_option Elab.async false

/-! ### One entry -/

/-- What an entry may become in its slot: the same key, no blend above 64 that was not there, and a deadline outside ACTIVE
only where it stood already (R2, R17, R18). -/
structure Entry.Follows (e e' : Entry) : Prop where
  source : e'.source = e.source
  cls : e'.cls = e.cls
  blend : e'.blend ≤ max 64 e.blend
  deadline : e'.state ≠ .active → e'.deadline = none ∨ (e'.state = e.state ∧ e'.deadline = e.deadline)

theorem Entry.Follows.refl (e : Entry) : e.Follows e :=
  ⟨rfl, rfl, by omega, fun _ => .inr ⟨rfl, rfl⟩⟩

theorem Entry.follows_renew (e : Entry) (f : PostFields) (now : Ms) : e.Follows (e.renew f now) :=
  ⟨rfl, rfl, Nat.le_max_right _ _, fun h => absurd rfl h⟩

theorem Entry.follows_retire {e e' : Entry} (h : e.retire = some e') : e.Follows e' := by
  unfold Entry.retire at h
  split at h
  · cases h
  · cases h; exact ⟨rfl, rfl, Nat.le_max_right _ _, fun _ => .inl rfl⟩

theorem Entry.follows_advance {e e' : Entry} (h : e.advance = some e') : e.Follows e' := by
  unfold Entry.advance at h
  split at h
  · cases h; exact .refl e
  · split at h
    · cases h; exact ⟨rfl, rfl, (Nat.min_le_left ..).trans (Nat.le_max_left ..), fun _ => .inr ⟨rfl, rfl⟩⟩
    · cases h; exact .refl e
    · split at h
      · cases h
      · cases h; exact ⟨rfl, rfl, (Nat.sub_le ..).trans (Nat.le_max_right ..), fun _ => .inr ⟨rfl, rfl⟩⟩

theorem Entry.follows_lapse (e : Entry) : e.Follows e.lapse := by
  unfold Entry.lapse
  split <;> exact ⟨rfl, rfl, Nat.le_max_right _ _, fun _ => .inl rfl⟩

theorem Entry.follows_underRecord {e e' : Entry} {classes : ClassSet} {scope : ChannelSet}
    (h : e.underRecord classes scope = some e') : e.Follows e' := by
  unfold Entry.underRecord at h
  split at h
  · exact Entry.follows_retire h
  · (repeat' split at h) <;> cases h
    · exact .refl e
    · exact ⟨rfl, rfl, Nat.le_max_right _ _, fun _ => .inl rfl⟩
    · exact ⟨rfl, rfl, Nat.le_max_right _ _, fun _ => .inr ⟨rfl, rfl⟩⟩

theorem Entry.follows_overridden (e : Entry) : e.Follows e.overridden := by
  unfold Entry.overridden
  split
  · exact ⟨rfl, rfl, Nat.le_max_right _ _, fun _ => .inl rfl⟩
  · exact .refl e

theorem Entry.follows_withValue (e : Entry) (v : Option Nat) : e.Follows { e with value := v } :=
  ⟨rfl, rfl, Nat.le_max_right _ _, fun _ => .inr ⟨rfl, rfl⟩⟩

theorem Entry.follows_capHold (e : Entry) (m : Nat) : e.Follows (e.capHold m) := by
  unfold Entry.capHold
  split
  · exact e.follows_withValue _
  · exact .refl e

/-! ### The table, slot by slot -/

/-- Every entry of the second table follows the one that stood in its slot in the first. -/
def Descends (t t' : Table) : Prop := ∀ (i : Slot) (e' : Entry), t'[i] = some e' → ∃ e, t[i] = some e ∧ e.Follows e'

theorem Descends.refl (t : Table) : Descends t t := fun _ e h => ⟨e, h, .refl e⟩

/-- Every entry of the table is a PARK entry (R24). -/
def parksOnly (t : Table) : Prop := ∀ (i : Slot) (e : Entry), t[i] = some e → e.cls = .park

theorem securedParksOnly_iff (s : State) : securedParksOnly s ↔ (s.coord.state = .secured → parksOnly s.table) := Iff.rfl

theorem Descends.parks {t t' : Table} (h : Descends t t') (hp : parksOnly t) : parksOnly t' := by
  intro i e' he'
  obtain ⟨e, he, hf⟩ := h i e' he'
  rw [hf.cls, hp i e he]

theorem put_slot (t : Table) (i j : Slot) (o : Option Entry) : (put t i o)[j] = if i = j then o else t[j] := put_get t i j o

/-- A change of one slot to a follower of its entry, or to vacant. -/
theorem descends_put {t : Table} {i : Slot} {o : Option Entry}
    (h : ∀ e', o = some e' → ∃ e, t[i] = some e ∧ e.Follows e') : Descends t (put t i o) := by
  intro j e' hj
  rw [put_slot] at hj
  split at hj
  next hij => subst hij; exact h e' hj
  next => exact ⟨e', hj, .refl e'⟩

theorem descends_put_none (t : Table) (i : Slot) : Descends t (put t i none) := descends_put (by simp)

/-- The item of a slot after a change of every entry. -/
theorem mapEntries_slot (t : Table) (f : Entry → Option Entry) (i : Slot) : (mapEntries t f)[i] = t[i].bind f :=
  mapAll_get t _ i

theorem descends_mapEntries {t : Table} {f : Entry → Option Entry} (h : ∀ e e', f e = some e' → e.Follows e') :
    Descends t (mapEntries t f) := by
  intro i e' hi
  rw [mapEntries_slot] at hi
  obtain ⟨e, he, hf⟩ := Option.bind_eq_some_iff.1 hi
  exact ⟨e, he, h e e' hf⟩

theorem descends_homeRelease (t : Table) (i : Slot) : Descends t (homeRelease t i) := by
  unfold homeRelease
  split
  · exact .refl t
  · next e he =>
    split
    · exact .refl t
    · exact descends_put fun e' h => ⟨e, he, Entry.follows_retire h⟩

theorem descends_homeValue (t : Table) (i : Slot) (v : Nat) : Descends t (homeValue t i v) := by
  refine descends_put fun e' h => ?_
  obtain ⟨e, he, rfl⟩ := Option.map_eq_some_iff.1 h
  exact ⟨e, he, e.follows_withValue _⟩

theorem descends_advanced (t : Table) : Descends t (advanced t) :=
  descends_mapEntries fun _ _ h => Entry.follows_advance h

theorem descends_applyRecord (t : Table) (a : Address) (c : ClassSet) (x : ChannelSet) :
    Descends t (applyRecord t a c x) := by
  refine descends_mapEntries fun e e' h => ?_
  split at h
  · exact Entry.follows_underRecord h
  · cases h; exact .refl e

theorem descends_tableRefresh (t : Table) (now : Ms) (src : Source) (cls : DemandClass) :
    Descends t (tableRefresh t now src cls).table := by
  unfold tableRefresh
  split
  · exact .refl t
  · next i e hf =>
    have he := (findEntry_spec hf).1
    split
    · split
      · next hs _ _ _ =>
          exact descends_put fun e' h => ⟨e, he, by cases h; exact ⟨rfl, rfl, Nat.le_max_right _ _, fun h => absurd hs h⟩⟩
      · exact .refl t
    · exact descends_put fun e' h => ⟨e, he, by cases h; exact ⟨rfl, rfl, Nat.le_max_right _ _, fun h => absurd rfl h⟩⟩
    · exact .refl t
    · exact .refl t

theorem descends_tableRelease (t : Table) (src : Source) (cls : DemandClass) :
    Descends t (tableRelease t src cls).table := by
  unfold tableRelease
  split
  · exact .refl t
  · next i e hf =>
    split
    · exact .refl t
    · exact descends_put fun e' h => ⟨e, (findEntry_spec hf).1, Entry.follows_retire h⟩

/-! ### Table properties kept -/

/-- The properties of a table that hold of the second one where they hold of the first: deadlines on ACTIVE entries only,
blends within 64, every key in its place (R1 to R3, R17, R18). -/
structure TableKept (t t' : Table) : Prop where
  deadlines : deadlinesOnActive t → deadlinesOnActive t'
  blends : blendsBounded t → blendsBounded t'
  keys : keysInPlace t → keysInPlace t'

theorem TableKept.refl (t : Table) : TableKept t t := ⟨id, id, id⟩

theorem TableKept.trans {t u v : Table} (h : TableKept t u) (g : TableKept u v) : TableKept t v :=
  ⟨g.deadlines ∘ h.deadlines, g.blends ∘ h.blends, g.keys ∘ h.keys⟩

theorem Descends.kept {t t' : Table} (h : Descends t t') : TableKept t t' where
  deadlines hd i e' he' hs := by
    obtain ⟨e, he, hf⟩ := h i e' he'
    rcases hf.deadline hs with hn | ⟨hst, hdl⟩
    · exact hn
    · rw [hdl]; exact hd i e he (hst ▸ hs)
  blends hb i e' he' := by
    obtain ⟨e, he, hf⟩ := h i e' he'
    have := hb i e he
    have := hf.blend
    omega
  keys hk := by
    obtain ⟨hplace, hone⟩ := hk
    constructor
    · intro i e' he'
      obtain ⟨e, he, hf⟩ := h i e' he'
      rw [hf.source, hf.cls]
      exact hplace i e he
    · intro i j e' g' he' hg' hsrc hcls
      obtain ⟨e, he, hf⟩ := h i e' he'
      obtain ⟨g, hg, hfg⟩ := h j g' hg'
      exact hone i j e g he hg (by rw [← hf.source, ← hfg.source, hsrc]) (by rw [← hf.cls, ← hfg.cls, hcls])

/-- A new entry in its place, whose key no other slot has. -/
theorem tableKept_put_new {t : Table} {i : Slot} {e : Entry} (hb : e.blend ≤ 64) (hs : e.state = .active)
    (hp : placed i e.source e.cls)
    (hnew : keysInPlace t → ∀ (j : Slot) (f : Entry), t[j] = some f → f.source = e.source → f.cls = e.cls → j = i) :
    TableKept t (put t i (some e)) where
  deadlines hd j f hf hne := by
    rw [put_slot] at hf
    split at hf
    · cases hf; exact absurd hs hne
    · exact hd j f hf hne
  blends hbs j f hf := by
    rw [put_slot] at hf
    split at hf
    · cases hf; exact hb
    · exact hbs j f hf
  keys hk := by
    have hnew := hnew hk
    obtain ⟨hplace, hone⟩ := hk
    constructor
    · intro j f hf
      rw [put_slot] at hf
      split at hf
      next hij => cases hf; subst hij; exact hp
      next => exact hplace j f hf
    · intro j k f g hf hg hsrc hcls
      rw [put_slot] at hf hg
      split at hf
      next hij =>
        cases hf
        split at hg
        next hik => exact hij.symm.trans hik
        next => exact hij.symm.trans (hnew k g hg hsrc.symm hcls.symm).symm
      next =>
        split at hg
        next hik => cases hg; exact (hnew j f hf hsrc hcls).trans hik
        next => exact hone j k f g hf hg hsrc hcls

/-- The key of an internal source has one place (R1). -/
theorem placed_home_unique {i j : Slot} {src : Source} {cls : DemandClass} (hs : 16 ≤ src.val)
    (hi : placed i src cls) (hj : placed j src cls) : i = j := by
  unfold placed at hi hj
  rcases hi with ⟨rfl, rfl, rfl⟩ | ⟨rfl, rfl, rfl⟩ | ⟨rfl, rfl, rfl⟩ | ⟨rfl, rfl, rfl⟩ | ⟨rfl, rfl, rfl⟩ |
    hi | hi
  case inr.inr.inr.inr.inr.inl => omega
  case inr.inr.inr.inr.inr.inr => omega
  all_goals simpa [eq_comm] using hj

/-- A new entry of an internal source in its home slot. -/
theorem tableKept_put_home {t : Table} {i : Slot} {e : Entry} (hs : 16 ≤ e.source.val) (hp : placed i e.source e.cls)
    (hb : e.blend ≤ 64) (hst : e.state = .active) : TableKept t (put t i (some e)) :=
  tableKept_put_new hb hst hp fun hk j f hf hsrc hcls =>
    placed_home_unique hs (hsrc ▸ hcls ▸ hk.1 j f hf) hp

theorem newEntry_blend (src : Source) (f : PostFields) (now : Ms) : (newEntry src f now).blend ≤ 64 := by
  unfold newEntry; dsimp only; split <;> omega

theorem tableKept_homePost {t : Table} {i : Slot} {src : Source} {f : PostFields} (now : Ms) (hs : 16 ≤ src.val)
    (hp : placed i src f.cls) : TableKept t (homePost t i src f now) := by
  unfold homePost
  split
  · next e he => exact (descends_put fun e' h => ⟨e, he, by cases h; exact e.follows_renew f now⟩).kept
  · exact tableKept_put_home hs hp (newEntry_blend src f now) rfl

/-- A post of a PARK entry into a home slot leaves a table of PARK entries one. -/
theorem parksOnly_homePost {t : Table} {i : Slot} {src : Source} {f : PostFields} {now : Ms} (hf : f.cls = .park)
    (h : parksOnly t) : parksOnly (homePost t i src f now) := by
  intro j e hj
  unfold homePost at hj
  rw [put_slot] at hj
  split at hj
  · cases hj
    split
    · next e he => exact h i e he
    · exact hf
  · exact h j e hj

/-! ### POST at the table -/

theorem busSource_val (a : Address) : (busSource a).val = a.val := rfl

/-- No entry stands under a key that is not found (R2). -/
theorem findEntry_none {t : Table} {src : Source} {cls : DemandClass} (h : findEntry t src cls = none)
    (i : Slot) (e : Entry) (he : t[i] = some e) : ¬ (e.source = src ∧ e.cls = cls) := by
  intro ⟨hs, hc⟩
  have := List.findSome?_eq_none_iff.1 h i (List.mem_finRange i)
  simp [he, Entry.hasKey, hs, hc] at this

theorem mem_emergencySlots {i : Slot} (h : i ∈ emergencySlots) : 5 ≤ i.val ∧ i.val ≤ 8 := by
  simp only [emergencySlots, List.mem_cons, List.not_mem_nil, or_false] at h
  rcases h with rfl | rfl | rfl | rfl <;> decide

theorem mem_generalSlots {i : Slot} (h : i ∈ generalSlots) : 9 ≤ i.val := by
  simpa [generalSlots] using h

/-- All that a POST of a new key does (R9): a new entry in the lowest vacant slot of its partition, or a refusal that
leaves the table, or the stop that R3 excludes. -/
theorem createEntry_cases {t : Table} {now : Ms} {room : Nat} {src : Source} {f : PostFields} {r : TableReply}
    (h : createEntry t now room src f = some r) :
    (∃ i, firstVacant t (if f.cls = .emergency then emergencySlots else generalSlots) = some i ∧
      r = { table := put t i (some (newEntry src f now)), code := .accepted, handle := some i }) ∨ r.table = t := by
  unfold createEntry at h
  split at h
  · next hc =>
    obtain ⟨i, hi, rfl⟩ := Option.map_eq_some_iff.1 h
    exact .inl ⟨i, by rw [if_pos hc]; exact hi, rfl⟩
  · next hc =>
    split at h
    · cases h; exact .inr rfl
    · split at h
      · next i hi => cases h; exact .inl ⟨i, by rw [if_neg hc]; exact hi, rfl⟩
      · cases h; exact .inr rfl

theorem placed_of_firstVacant {t : Table} {i : Slot} {a : Address} {cls : DemandClass}
    (h : firstVacant t (if cls = .emergency then emergencySlots else generalSlots) = some i) :
    placed i (busSource a) cls := by
  have hmem := (firstVacant_spec h).1
  have ha : (busSource a).val < 16 := a.isLt
  split at hmem
  · next hc =>
    obtain ⟨h5, h8⟩ := mem_emergencySlots hmem
    exact .inr (.inr (.inr (.inr (.inr (.inl ⟨h5, h8, ha, hc⟩)))))
  · next hc => exact .inr (.inr (.inr (.inr (.inr (.inr ⟨mem_generalSlots hmem, ha, hc⟩)))))

theorem tableKept_tablePost {t : Table} {now : Ms} {room : Nat} {a : Address} {f : PostFields} {r : TableReply}
    (h : tablePost t now room (busSource a) f = some r) : TableKept t r.table := by
  unfold tablePost at h
  split at h
  · next i e hf =>
    cases h
    exact (descends_put fun e' h => ⟨e, (findEntry_spec hf).1, by cases h; exact e.follows_renew f now⟩).kept
  · next hf =>
    rcases createEntry_cases h with ⟨i, hi, rfl⟩ | hr
    · exact tableKept_put_new (newEntry_blend _ f now) rfl (placed_of_firstVacant hi)
        fun _ j g hg hs hc => absurd ⟨hs, hc⟩ (findEntry_none hf j g hg)
    · rw [hr]; exact .refl t

/-- A POST of a PARK entry leaves a table of PARK entries one. -/
theorem parksOnly_tablePost {t : Table} {now : Ms} {room : Nat} {src : Source} {f : PostFields} {r : TableReply}
    (hf : f.cls = .park) (h : tablePost t now room src f = some r) (hp : parksOnly t) : parksOnly r.table := by
  unfold tablePost at h
  split at h
  · next i e he =>
    cases h
    exact (descends_put fun e' h => ⟨e, (findEntry_spec he).1, by cases h; exact e.follows_renew f now⟩).parks hp
  · rcases createEntry_cases h with ⟨i, -, rfl⟩ | hr
    · intro j e hj
      rw [put_slot] at hj
      split at hj
      · cases hj; exact hf
      · exact hp j e hj
    · rw [hr]; exact hp

/-! ### The tables of cold start and wake (R25, R26) -/

theorem tableKept_door_switch {t u : Table} (p : Params) (now : Ms) (door : Bool) (o : Option Entry)
    (h : TableKept t u) (ho : ∀ e, o = some e → u[(2 : Slot)] = some e ∨ e = newEntry 18 parkFields now) :
    TableKept t (put (put (put u 0 (some pedalEntry)) 1 (if door then some (doorEntry p now) else none)) 2 o) := by
  have hpedal : TableKept u (put u 0 (some pedalEntry)) :=
    tableKept_put_home (by decide) (by decide) (by decide) rfl
  refine (h.trans hpedal).trans ?_
  have hdoor : TableKept (put u 0 (some pedalEntry))
      (put (put u 0 (some pedalEntry)) 1 (if door then some (doorEntry p now) else none)) := by
    split
    · exact tableKept_put_home (show 16 ≤ (17 : Source).val by decide) (show placed 1 17 .hold by decide)
        (newEntry_blend _ _ _) rfl
    · exact (descends_put_none _ _).kept
  refine hdoor.trans ?_
  cases o with
  | none => exact (descends_put_none _ _).kept
  | some e =>
    rcases ho e rfl with he | rfl
    · refine (descends_put fun e' h => ?_).kept
      cases h
      exact ⟨e, by rw [put_slot, put_slot]; exact he, .refl e⟩
    · exact tableKept_put_home (show 16 ≤ (18 : Source).val by decide) (show placed 2 18 .park by decide)
        (newEntry_blend _ _ _) rfl

theorem descends_empty (t : Table) : Descends t (Vector.replicate 32 none) := by
  intro i e h; simp at h

theorem tableKept_coldTable (t : Table) (p : Params) (door parkSwitch : Bool) (now : Ms) :
    TableKept t (coldTable p door parkSwitch now) :=
  tableKept_door_switch p now door _ (descends_empty t).kept fun e h => .inr (by
    split at h
    · cases h; rfl
    · cases h)

theorem tableKept_wakeTable (t : Table) (p : Params) (door parkSwitch : Bool) (now : Ms) :
    TableKept t (wakeTable t p door parkSwitch now) :=
  tableKept_door_switch p now door _ (.refl t) fun e h => by
    split at h
    · split at h
      · exact .inl h
      · cases h; exact .inr rfl
    · cases h

end Sys2Proof.Machine
end

section
/-!
PROOFS. The invariants of the table, the targets and the settings over every operation of the block, said once: `Kept s t`
is what each operation, and so each command and each step, does to all of them (R1 to R3, R17, R18, R24, R70, R76, R167).
-/

namespace Sys2Proof.Machine

open Sys2Proof.Safety

-- One theorem after another: elaborated all at once they need more thread stacks than the check's memory limit grants.
set_option Elab.async false

/-- The invariants that hold of the second state where they hold of the first. -/
structure Kept (s t : State) : Prop where
  table : TableKept s.table t.table
  secured : securedParksOnly s → securedParksOnly t
  targets : targetsBounded s → targetsBounded t
  holds : holdsOrdered s.settings → holdsOrdered t.settings

theorem Kept.refl (s : State) : Kept s s := ⟨.refl _, id, id, id⟩

theorem Kept.after {s t u : State} (g : Kept t u) (h : Kept s t) : Kept s u :=
  ⟨h.table.trans g.table, g.secured ∘ h.secured, g.targets ∘ h.targets, g.holds ∘ h.holds⟩

theorem targetsBounded_congr {s t : State} (ha : t.alloc = s.alloc) (hs : t.settings = s.settings)
    (h : targetsBounded s) : targetsBounded t := by
  intro c; rw [ha, hs]; exact h c

/-- A change of the table alone, which leaves PARK entries only where SECURED stands. -/
theorem Kept.of_table {s t : State} (ht : TableKept s.table t.table)
    (hc : t.coord.state = .secured → s.coord.state = .secured ∧ (parksOnly s.table → parksOnly t.table))
    (ha : t.alloc = s.alloc := by simp) (hs : t.settings = s.settings := by simp) : Kept s t where
  table := ht
  secured h hsec := (hc hsec).2 (h (hc hsec).1)
  targets := targetsBounded_congr ha hs
  holds h := hs ▸ h

/-- A change of the table that only follows the entries standing. -/
theorem Kept.of_descends {s t : State} (h : Descends s.table t.table)
    (hc : t.coord.state = .secured → s.coord.state = .secured := by simp)
    (ha : t.alloc = s.alloc := by simp) (hs : t.settings = s.settings := by simp) : Kept s t :=
  .of_table h.kept (fun hsec => ⟨hc hsec, h.parks⟩) ha hs

/-- A change of other blocks. -/
theorem Kept.of_same {s t : State} (ht : t.table = s.table := by simp)
    (hc : t.coord.state = .secured → s.coord.state = .secured := by simp)
    (ha : t.alloc = s.alloc := by simp) (hs : t.settings = s.settings := by simp) : Kept s t :=
  .of_descends (ht ▸ .refl _) hc ha hs

/-- A change of other blocks after an operation. -/
theorem Kept.same {s t u : State} (h : Kept s t) (ht : u.table = t.table := by simp)
    (hc : u.coord.state = .secured → t.coord.state = .secured := by simp)
    (ha : u.alloc = t.alloc := by simp) (hs : u.settings = t.settings := by simp) : Kept s u :=
  (Kept.of_same ht hc ha hs).after h

/-! ### The coordinator's record and the port -/

theorem kept_answer (s : State) (a : Address) (k : Kind) (x : Byte) (o : AnswerCode) (u v w : Byte) :
    Kept s (answer s a k x o u v w) := .of_same

theorem kept_wellFormed (s : State) (a : Address) : Kept s (wellFormed s a) := .of_same

theorem kept_endExercise (s : State) (w : EndReason) : Kept s (endExercise s w) := .of_same

theorem kept_formStatus (s : State) : Kept s (formStatus s) := .of_same

theorem kept_evalOverride (s : State) : Kept s (evalOverride s) := .of_same

theorem kept_evalDoorMoving (s : State) : Kept s (evalDoorMoving s) := .of_same

theorem kept_reapply (s : State) : Kept s (reapply s) := .of_same

theorem kept_startWindow (s : State) : Kept s (startWindow s) := .of_same (hc := id)

/-! ### The park valve -/

theorem evaluateRelease_coord_state (s : State) : (evaluateRelease s).coord.state = s.coord.state := by
  rcases evaluateRelease_cases s with ⟨-, h⟩ | ⟨-, -, h⟩ | ⟨-, -, h⟩ <;> rw [h] <;> rfl

theorem kept_evaluateRelease (s : State) : Kept s (evaluateRelease s) :=
  .of_same (hc := by rw [evaluateRelease_coord_state]; exact id)

theorem kept_reevaluateRelease (s : State) : Kept s (reevaluateRelease s) := by
  unfold reevaluateRelease
  split
  · exact kept_evaluateRelease s
  · exact .refl s

theorem parkCeases_coord_state (s : State) : (parkCeases s).coord.state = s.coord.state := by
  unfold parkCeases
  dsimp only
  split
  · rw [evaluateRelease_coord_state]
  · rfl

@[simp] theorem putTable_coord_state (s : State) (t : Table) : (putTable s t).coord.state = s.coord.state := by
  unfold putTable
  dsimp only
  split
  · rfl
  · split
    · rw [parkCeases_coord_state]
    · rfl

theorem kept_putTable {s : State} {t : Table} (h : TableKept s.table t)
    (hc : s.coord.state = .secured → parksOnly s.table → parksOnly t) : Kept s (putTable s t) :=
  .of_table (by rw [putTable_table]; exact h) fun hsec => by
    rw [putTable_coord_state] at hsec
    rw [putTable_table]
    exact ⟨hsec, hc hsec⟩

theorem kept_putTable_descends {s : State} {t : Table} (h : Descends s.table t) : Kept s (putTable s t) :=
  kept_putTable h.kept fun _ => h.parks

/-! ### Home slots -/

/-- A HOLD entry is posted outside SECURED alone. -/
theorem kept_postSlot3 {s : State} (v : Nat) (hc : s.coord.state ≠ .secured) : Kept s (postSlot3 s v) :=
  .of_table (tableKept_homePost _ (by decide) (show placed 3 19 .hold by decide)) fun h => absurd h hc

theorem kept_postDoor {s : State} (hc : s.coord.state ≠ .secured) : Kept s (postDoor s) :=
  .of_table (tableKept_homePost _ (by decide) (show placed 1 17 .hold by decide)) fun h => absurd h hc

theorem kept_postSlot4 (s : State) : Kept s (postSlot4 s) :=
  kept_putTable (tableKept_homePost _ (by decide) (show placed 4 19 .park by decide)) fun _ => parksOnly_homePost rfl

theorem kept_postSwitch (s : State) : Kept s (postSwitch s) :=
  kept_putTable (tableKept_homePost _ (by decide) (show placed 2 18 .park by decide)) fun _ => parksOnly_homePost rfl

theorem kept_releaseSwitch (s : State) : Kept s (releaseSwitch s) :=
  kept_putTable_descends (descends_homeRelease _ _)

theorem kept_releaseDoor (s : State) : Kept s (releaseDoor s) := .of_descends (descends_homeRelease _ _)

theorem kept_raiseSlot3 (s : State) : Kept s (raiseSlot3 s) := .of_descends (descends_homeValue _ _ _)

theorem kept_releaseSlot3 (s : State) : Kept s (releaseSlot3 s) := by
  refine .of_descends ?_
  unfold releaseSlot3
  dsimp only
  split
  · exact descends_homeRelease _ _
  · exact .refl _

theorem kept_handover (s : State) : Kept s (handover s) := by
  unfold handover
  split
  · exact kept_releaseSlot3 s
  · exact .refl s

/-! ### States of the coordinator -/

@[simp] theorem setStandstill_coord_state (s : State) (st : Standstill) : (setStandstill s st).coord.state = st := rfl

@[simp] theorem enterRun_coord_state (s : State) : (enterRun s).coord.state = .run := rfl

theorem kept_setStandstill {s : State} {st : Standstill} (h : st ≠ .secured) : Kept s (setStandstill s st) :=
  .of_same (hc := fun hsec => absurd hsec h)

theorem kept_promote (s : State) : Kept s (promote s) :=
  (kept_handover _).after ((kept_postSlot4 _).after (kept_setStandstill (by decide)))

theorem kept_enterRun (s : State) : Kept s (enterRun s) := .of_same

theorem kept_enterStopHold {s : State} (h : s.coord.state ≠ .secured) : Kept s (enterStopHold s) :=
  (kept_startWindow _).after
    (((kept_setStandstill (st := .stopHold) (by decide)).after (kept_postSlot3 (drivePressure s) h)).same
      (hc := id))

theorem kept_evalStopHold (s : State) : Kept s (evalStopHold s) := by
  unfold evalStopHold
  split
  · next h =>
    have hrun : s.coord.state = .run := by
      simp only [stopHoldConditions, Bool.and_eq_true, decide_eq_true_eq] at h; tauto
    exact kept_enterStopHold (by rw [hrun]; decide)
  · exact .refl s

theorem kept_evalReturn (s : State) : Kept s (evalReturn s) := by
  unfold evalReturn
  split
  · exact (kept_enterRun _).after (kept_releaseSlot3 s)
  · exact .refl s

theorem kept_considerPromotion (s : State) : Kept s (considerPromotion s) := by
  unfold considerPromotion
  split
  · exact kept_promote s
  · exact .of_same (hc := id)

theorem kept_driveOff (s : State) : Kept s (driveOff s) :=
  (kept_putTable_descends (descends_homeRelease _ _)).after
    (((kept_enterRun _).after (kept_releaseSlot3 s)).same (hc := id))

theorem kept_evalDriveOff (s : State) : Kept s (evalDriveOff s) := by
  unfold evalDriveOff
  split
  · exact kept_driveOff s
  · exact .refl s

theorem kept_undoDriveOff (s : State) : Kept s (undoDriveOff s) :=
  (kept_handover _).after (((kept_startWindow _).after
    ((kept_postSlot4 _).after (kept_setStandstill (st := .autoPark) (by decide)))).same (hc := id))

theorem kept_creepFound (s : State) : Kept s (creepFound s) := by
  refine (kept_startWindow _).after ?_
  split
  · split
    · exact kept_raiseSlot3 s
    · exact kept_promote s
  · split
    · exact kept_raiseSlot3 s
    · exact kept_reapply s
  · next h => exact (kept_setStandstill (by decide)).after (kept_postSlot3 _ (by rw [h]; decide))
  · exact .refl s
  · exact .refl s
  · exact .refl s

theorem kept_creepEdge (s : State) (c : Channel) : Kept s (creepEdge s c) := by
  unfold creepEdge
  split
  · exact .refl s
  · split
    · exact kept_creepFound s
    · exact .of_same (hc := id)

theorem kept_rollingEdge (s : State) (c : Channel) : Kept s (rollingEdge s c) := by
  unfold rollingEdge
  dsimp only
  split
  · exact (kept_formStatus _).after ((kept_reapply s).same (hc := id))
  · exact .of_same (hc := id)

theorem kept_coordinatorEdge (s : State) (c : Channel) : Kept s (coordinatorEdge s c) := by
  unfold coordinatorEdge
  split
  · exact kept_creepEdge s c
  · exact kept_creepEdge s c
  · exact kept_creepEdge s c
  · exact kept_rollingEdge s c
  · exact .refl s
  · exact .refl s

theorem kept_quietExpired (s : State) : Kept s (quietExpired s) := by
  unfold quietExpired
  split
  · exact (kept_startWindow _).after ((kept_handover _).after (kept_setStandstill (by decide)))
  · exact kept_startWindow s

theorem kept_coordinatorModes (s : State) (left : Bool) : Kept s (coordinatorModes s left) := by
  unfold coordinatorModes
  split
  · exact kept_promote s
  · exact kept_evalStopHold s

theorem kept_coordinatorScan (s : State) : Kept s (coordinatorScan s) := by
  unfold coordinatorScan
  split
  · exact kept_evalStopHold s
  · exact kept_evalReturn s
  · exact kept_evalDriveOff s
  · exact kept_evalDriveOff s
  · exact .refl s
  · exact .refl s

theorem kept_coordinatorDrive (s : State) : Kept s (coordinatorDrive s) := by
  unfold coordinatorDrive
  split
  · exact (kept_evalDriveOff _).after (kept_evalReturn s)
  · exact kept_evalStopHold s

/-! ### Circuit modes and trips -/

theorem targetsBounded_writeModes {s : State} (mode : CircuitId → Mode) (h : targetsBounded s) :
    targetsBounded (writeModes s mode) := by
  intro c
  have hget : (writeModes s mode).alloc.target[c] =
      if comesBack s.circuit[circuitOf c].mode (mode (circuitOf c)) then
        min (measured s.sampling c) (s.settings.params.pmax (axleOf c)) else s.alloc.target[c] := mapAll_get _ _ c
  rw [hget, writeModes_settings]
  split
  · exact Nat.min_le_right _ _
  · exact h c

theorem kept_writeModes (s : State) (mode : CircuitId → Mode) : Kept s (writeModes s mode) where
  table := .refl _
  secured := id
  targets := targetsBounded_writeModes mode
  holds := id

theorem kept_applyModes (s : State) (mode : CircuitId → Mode) : Kept s (applyModes s mode) := by
  unfold applyModes
  dsimp only
  split
  · exact .refl s
  · refine (kept_coordinatorModes _ _).after ?_
    have hexercise : Kept s (if exerciseLeft s fun k => goesOut s.circuit[k].mode (mode k) then
        endExercise (writeModes s mode) .circuitFallback else writeModes s mode) := by
      split
      · exact (kept_endExercise _ _).after (kept_writeModes s mode)
      · exact kept_writeModes s mode
    split
    · exact (kept_reevaluateRelease _).after hexercise
    · exact hexercise

theorem kept_settleModes (s : State) : Kept s (settleModes s) := kept_applyModes s _

theorem kept_rise (s : State) (x : TripSet) : Kept s (rise s x) := .of_same

theorem kept_setActive (s : State) (x : TripSet) : Kept s (setActive s x) := .of_same

theorem kept_clearTrip (s : State) : Kept s (clearTrip s) := (kept_settleModes _).after (.of_same (hc := id))

/-! ### Securing -/

theorem purge_slot (t : Table) (i : Slot) :
    (purge t)[i] = t[i].bind fun e => if e.cls = .park then some e else none := mapEntries_slot t _ i

theorem purge_parksOnly (t : Table) : parksOnly (purge t) := by
  intro i e h
  rw [purge_slot] at h
  obtain ⟨e', -, h⟩ := Option.bind_eq_some_iff.1 h
  split at h
  · next hp => cases h; exact hp
  · cases h

theorem descends_purge (t : Table) : Descends t (purge t) :=
  descends_mapEntries fun e e' h => by
    split at h
    · cases h; exact .refl e
    · cases h

theorem Kept.of_purge {s t : State} (ht : t.table = purge s.table) (ha : t.alloc = s.alloc)
    (hs : t.settings = s.settings) : Kept s t where
  table := ht ▸ (descends_purge _).kept
  secured _ _ := (ht ▸ purge_parksOnly _ : parksOnly t.table)
  targets := targetsBounded_congr ha hs
  holds h := hs ▸ h

theorem kept_completeSecuring (s : State) : Kept s (completeSecuring s) := by
  unfold completeSecuring
  exact (kept_applyModes _ _).after (.of_purge (by simp) (by simp) (by simp))

theorem kept_leaveAutoPark (s : State) :
    Kept s (if s.coord.state = .autoPark then endExercise s .leftAutoPark else s) := by
  split
  · exact kept_endExercise _ _
  · exact .refl s

theorem kept_beginSecuring (s : State) : Kept s (beginSecuring s) := by
  unfold beginSecuring
  have hleave := kept_leaveAutoPark s
  revert hleave
  generalize (if s.coord.state = .autoPark then endExercise s .leftAutoPark else s) = t
  intro hleave
  have hslot3 : Kept s (postSlot3 { t with coord := t.coord.secure, doorOpenMoving := false }
      s.settings.params.holdMax) :=
    (kept_postSlot3 _ (by intro h; cases h)).after (hleave.same (hc := by intro h; cases h))
  dsimp only
  split
  · exact (kept_postSlot4 _).after hslot3
  · exact hslot3

theorem kept_enterSecuring (s : State) : Kept s (enterSecuring s) := by
  unfold enterSecuring
  dsimp only
  split
  · exact (kept_completeSecuring _).after (kept_beginSecuring s)
  · exact kept_beginSecuring s

theorem kept_reportApplied (s : State) : Kept s (reportApplied s) := by
  unfold reportApplied
  split
  · exact kept_completeSecuring s
  · exact kept_handover s

theorem kept_matchDoor {s : State} (h : s.coord.state ≠ .secured) : Kept s (matchDoor s) := by
  unfold matchDoor
  split
  · split
    · exact kept_postDoor h
    · exact .refl s
  · split
    · exact kept_releaseDoor s
    · exact .refl s

theorem kept_matchSwitch (s : State) : Kept s (matchSwitch s) := by
  unfold matchSwitch
  split
  · split
    · exact kept_postSwitch s
    · exact .refl s
  · split
    · exact kept_releaseSwitch s
    · exact .refl s

theorem kept_returnFromSecuring (s : State) : Kept s (returnFromSecuring s) :=
  (kept_handover _).after ((kept_startWindow _).after ((kept_evalDoorMoving _).after ((kept_matchSwitch _).after
    ((kept_matchDoor (by simp)).after (kept_setStandstill (st := .autoPark) (by decide))))))

/-! ### Speeds -/

theorem kept_coordinatorSpeed (s : State) (old : Nat) : Kept s (coordinatorSpeed s old) := by
  unfold coordinatorSpeed
  split
  · exact kept_enterSecuring s
  · refine (kept_evalDriveOff _).after (.of_same (hc := ?_))
    dsimp only [Coordinator.settle]
    split <;> exact id

theorem kept_exerciseSpeed (s : State) : Kept s (exerciseSpeed s) := .of_same

theorem kept_slipSpeed (s : State) (old : Nat) : Kept s (slipSpeed s old) := .of_same

theorem kept_setReference (s : State) (v : Nat) : Kept s (setReference s v) := by
  unfold setReference
  split
  · exact .refl s
  · exact (kept_coordinatorSpeed _ _).after ((kept_slipSpeed _ _).after ((kept_exerciseSpeed _).after
      ((kept_evalOverride _).after ((kept_evalDoorMoving _).after (.of_same (hc := id))))))

theorem kept_evalSuspects (s : State) : Kept s (evalSuspects s) := .of_same

theorem kept_setWheel (s : State) (c : Channel) (w : Wheel) : Kept s (setWheel s c w) :=
  (kept_evalSuspects _).after ((kept_setReference _ _).after (.of_same (hc := id)))

theorem kept_toothEdge (s : State) (c : Channel) : Kept s (toothEdge s c) :=
  (kept_coordinatorEdge _ c).after (kept_setWheel s c _)

theorem kept_markSuspect (s : State) (c : Channel) : Kept s (markSuspect s c) :=
  (kept_setWheel _ _ _).after (.of_same (hc := id))

/-! ### Conversions -/

theorem kept_pedalScan (s : State) : Kept s (pedalScan s) := .of_descends (descends_homeValue _ _ _)

theorem kept_supervise (s : State) (g : Sampling) : Kept s (supervise s g) := .of_same

theorem kept_tripScan (s : State) : Kept s (tripScan s) := (kept_setActive _ _).after (.of_same (hc := id))

theorem kept_driveScanComplete (s : State) (g : Sampling) : Kept s (driveScanComplete s g) :=
  (kept_tripScan _).after ((kept_supervise _ _).after (kept_pedalScan s))

theorem kept_advanceScan (s : State) (r : Fin 16) : Kept s (advanceScan s r).1 := by
  unfold advanceScan
  split
  · exact .of_same (hc := id)
  · dsimp only
    split
    · exact .of_same (hc := id)
    · exact (kept_driveScanComplete _ _).after (.of_same (hc := id))

theorem kept_confirmApplied (s : State) : Kept s (confirmApplied s) := by
  unfold confirmApplied
  dsimp only
  split
  · exact (kept_reportApplied _).after (.of_same (hc := id))
  · exact (kept_evaluateRelease _).after ((kept_reportApplied _).after (.of_same (hc := id)))

theorem kept_confirmReleased (s : State) : Kept s (confirmReleased s) := .of_same rfl id rfl rfl

theorem kept_parkConversion (s : State) (r : ConvResult) : Kept s (parkConversion s r) := by
  unfold parkConversion
  split
  · exact .refl s
  · split
    · exact .refl s
    · split
      · exact kept_confirmApplied s
      · split
        · exact kept_confirmReleased s
        · exact .refl s

theorem kept_deliver (s : State) (input : Fin 12) (r : ConvResult) : Kept s (deliver s input r) := by
  unfold deliver
  split
  · exact (kept_setActive _ _).after (.of_same (hc := id))
  · split
    · exact kept_reevaluateRelease s
    · split
      · exact kept_parkConversion s r
      · exact .refl s

theorem kept_watchEvent (s : State) (w : Bool) (input : Fin 12) (r : ConvResult) : Kept s (watchEvent s w input r) := by
  unfold watchEvent
  split
  · exact .refl s
  · split
    · exact kept_reapply s
    · exact kept_formStatus s

theorem kept_takeConversion (s : State) (record : Fin 16) (r : ConvResult) : Kept s (takeConversion s record r) := by
  have hdeliver (g : Sampling) (w : Bool) (input : Fin 12) :
      Kept s (watchEvent (deliver { s with sampling := g } input r) w input r) :=
    (kept_watchEvent _ _ _ _).after ((kept_deliver _ _ _).after (.of_same (hc := id)))
  unfold takeConversion
  dsimp only
  split
  · exact (kept_settleModes _).after (hdeliver _ _ _)
  · have hscan := fun g w input => (kept_settleModes _).after ((kept_advanceScan _ record).after (hdeliver g w input))
    split
    · exact (kept_coordinatorScan _).after ((kept_evalOverride _).after (hscan _ _ _))
    · exact hscan _ _ _

theorem kept_conversionEvent (s : State) (raw : BitVec 12) : Kept s (conversionEvent s raw) := by
  unfold conversionEvent
  split
  · split
    · exact kept_takeConversion s _ _
    · exact .refl s
  · exact .refl s

/-! ### Allocation -/

theorem slewed_le {p : Params} {b : Bool} {previous demand m : Nat} (hp : previous ≤ m) (hd : demand ≤ m) :
    slewed p b previous demand ≤ m := by
  have := (slewed_between p b previous demand).2
  omega

theorem demandPressure_le_pmax (s : State) (t : Table) (c : Channel) :
    demandPressure s t c ≤ s.settings.params.pmax (axleOf c) := by
  unfold demandPressure demandAtPmax; omega

theorem allocate_target (s : State) (c : Channel) : (allocate s).alloc.target[c] = targetOf s (advanced s.table) c := by
  simp [allocate, periodTargets]

theorem allocate_table (s : State) : (allocate s).table = advanced s.table := rfl

theorem targetsBounded_allocate {s : State} (h : targetsBounded s) : targetsBounded (allocate s) := by
  intro c
  rw [allocate_target, allocate_settings]
  exact slewed_le (h c) (demandPressure_le_pmax s _ c)

theorem kept_allocate (s : State) : Kept s (allocate s) where
  table := by rw [allocate_table]; exact (descends_advanced s.table).kept
  secured h hc := by
    rw [allocate_coord] at hc
    rw [allocate_table]
    exact (descends_advanced s.table).parks (h hc)
  targets := targetsBounded_allocate
  holds h := by rw [allocate_settings]; exact h

/-! ### Cold start and wake -/

theorem factory_holds : factoryParams.holdMin ≤ factoryParams.holdMax := by decide

theorem holdsOrdered_loadSettings {g : Settings} (h : holdsOrdered g) : holdsOrdered (loadSettings g.image) := by
  refine ⟨?_, h.2⟩
  unfold loadSettings
  dsimp only
  split
  · exact h.2
  · exact factory_holds

theorem kept_coldBlocks (s : State) : Kept s (coldBlocks s) where
  table := (descends_empty s.table).kept
  secured _ hc := nomatch hc
  targets _ c := by simp [coldBlocks]
  holds := holdsOrdered_loadSettings

theorem kept_coldEntries {s : State} (hc : s.coord.state ≠ .secured) : Kept s (coldEntries s) :=
  (kept_startWindow _).after ((kept_postSlot4 _).after
    (kept_putTable (tableKept_coldTable _ _ _ _ _) fun h => absurd h hc))

theorem kept_coldStart (s : State) : Kept s (coldStart s) := by
  unfold coldStart
  have hentries : Kept s (coldEntries (coldBlocks s)) :=
    (kept_coldEntries (by intro h; cases h)).after (kept_coldBlocks s)
  dsimp only
  split
  · exact (kept_setActive _ _).after hentries
  · exact (kept_enterSecuring _).after ((kept_setActive _ _).after hentries)

theorem wakeBlocks_coord_state (s : State) : (wakeBlocks s).coord.state = .autoPark := rfl

theorem reevaluateRelease_coord_state (s : State) : (reevaluateRelease s).coord.state = s.coord.state := by
  unfold reevaluateRelease
  split
  · exact evaluateRelease_coord_state s
  · rfl

theorem kept_wake (s : State) : Kept s (wake s) := by
  have hblocks : Kept s (reevaluateRelease (wakeBlocks s)) :=
    (kept_reevaluateRelease _).after (.of_same (hc := by rw [wakeBlocks_coord_state]; intro h; cases h))
  have hstate : (reevaluateRelease (wakeBlocks s)).coord.state ≠ .secured := by
    rw [reevaluateRelease_coord_state, wakeBlocks_coord_state]; decide
  exact (kept_handover _).after ((kept_startWindow _).after ((kept_evalDoorMoving _).after
    ((kept_putTable (tableKept_wakeTable _ _ _ _ _) fun h => absurd h hstate).after hblocks)))

end Sys2Proof.Machine
end

section
/-!
PROOFS. Every command, and so every step, keeps the invariants of the table, the targets and the settings; the obligations
on them (R17, R18, R24, R70, R76, R87, R167).
-/

namespace Sys2Proof.Machine

open Sys2Proof.Safety

-- One theorem after another: elaborated all at once they need more thread stacks than the check's memory limit grants.
set_option Elab.async false

/-! ### Outcomes -/

theorem Kept.ite {s t u : State} {b : Prop} [Decidable b] (h : Kept s t) (g : Kept s u) :
    Kept s (if b then t else u) := by
  split
  · exact h
  · exact g

theorem Kept.when {s t : State} {b : Prop} [Decidable b] (h : Kept s t) : Kept s (if b then t else s) :=
  Kept.ite h (.refl s)

/-- Whatever next state an outcome holds keeps the invariants of the state before. -/
def KeptBy (s : State) (r : Result) : Prop := ∀ t, r = .next t → Kept s t

theorem keptBy_next {s t : State} (h : Kept s t) : KeptBy s (.next t) := by
  intro u hu; cases hu; exact h

/-- The common path of requests keeps what the act of an ENROLLED sender keeps (R33, R35, R45). -/
theorem keptBy_request {s absent : State} {a : Address} {act : State → Result} (habs : Kept s absent)
    (hact : ∀ t, KeptBy t (act t)) : KeptBy s (request s a absent act) := by
  unfold request
  split
  · exact keptBy_next (.refl s)
  · split
    · exact keptBy_next habs
    · exact keptBy_next (.refl s)
    · exact fun u hu => (hact _ u hu).after (kept_wellFormed s a)

/-! ### Requests -/

theorem kept_notEnrolled (s : State) (a : Address) (k : Kind) (x u v : Byte) : Kept s (notEnrolled s a k x u v) :=
  kept_answer _ _ _ _ _ _ _ _

theorem kept_demandAnswer (s : State) (a : Address) (k : Kind) (x : Byte) (o : AnswerCode) (i : Option Slot) :
    Kept s (demandAnswer s a k x o i) := kept_answer _ _ _ _ _ _ _ _

theorem kept_plainAnswer (s : State) (a : Address) (k : Kind) (x : Byte) (o : AnswerCode) :
    Kept s (plainAnswer s a k x o) := kept_answer _ _ _ _ _ _ _ _

/-- A POST that passes the checks of R37 while SECURED is of class PARK. -/
theorem checkPost_secured {r : RosterRecord} {cb sb : Byte} {cls : DemandClass} {set : ChannelSet}
    (h : checkPost r true cb sb = .ok (cls, set)) : cls = .park := by
  unfold checkPost at h
  cases hc : classOf cb with
  | none => simp [hc] at h
  | some k =>
    by_cases hk : k = .park
    · subst hk
      simp only [hc] at h
      (repeat' split at h) <;> simp_all
    · simp [hc, hk] at h
      split at h <;> cases h

theorem marked_table (r : TableReply) (b : Bool) : (r.marked b).table = r.table := by
  unfold TableReply.marked; split <;> rfl

theorem keptBy_postRequest (s : State) (a : Address) (cb sb life opts gate : Byte) (v : BitVec 16) :
    KeptBy s (postRequest s a cb sb v life opts gate) := by
  unfold postRequest
  split
  · exact keptBy_next (kept_demandAnswer _ _ _ _ _ _)
  · next k set hcheck =>
    unfold postAtTable
    split
    · intro t h; cases h
    · next r hr =>
      refine keptBy_next ((kept_demandAnswer _ _ _ _ _ _).after (kept_putTable ?_ fun hsec hp => ?_))
      · rw [marked_table]; exact tableKept_tablePost hr
      · rw [marked_table]
        have hsec' : securingOrSecured s = true := by simp [securingOrSecured, hsec]
        rw [hsec'] at hcheck
        exact parksOnly_tablePost (checkPost_secured hcheck) hr hp

theorem kept_refreshRequest (s : State) (a : Address) (cb : Byte) : Kept s (refreshRequest s a cb) := by
  unfold refreshRequest
  split
  · exact kept_demandAnswer _ _ _ _ _ _
  · exact (kept_demandAnswer _ _ _ _ _ _).after (kept_putTable_descends (descends_tableRefresh _ _ _ _))

theorem kept_releaseRequest (s : State) (a : Address) (cb : Byte) : Kept s (releaseRequest s a cb) := by
  unfold releaseRequest
  split
  · exact kept_demandAnswer _ _ _ _ _ _
  · exact (kept_demandAnswer _ _ _ _ _ _).after (kept_putTable_descends (descends_tableRelease _ _ _))

/-! ### SET_PARAM (R197) -/

/-- A parameter set that is accepted orders hold_min and hold_max where the old one did (R167). -/
theorem setParam_holdsOrdered {p : Params} {g : Sampling} {id v : Nat} (hid : id < 44) (hok : paramOk p g id v = true)
    (h : p.holdMin ≤ p.holdMax) : (setParam p id v).holdMin ≤ (setParam p id v).holdMax := by
  simp only [paramOk, if_pos hid, Bool.and_eq_true] at hok
  obtain ⟨-, hjoint⟩ := hok
  by_cases hid' : id = 30 ∨ id = 31
  · have hne : ¬ (id = 21 ∨ id = 22) := by omega
    simpa [jointOk, hid', hne] using hjoint
  · unfold setParam
    split
    · simp only [Params.holdMin, Params.holdMax] at h ⊢
      rw [Vector.getElem_set_ne _ _ (by omega), Vector.getElem_set_ne _ _ (by omega)]
      exact h
    · exact h

theorem lowerTargets_target (s : State) (old : Params) (c : Channel) :
    (lowerTargets s old).alloc.target[c] =
      if s.settings.params.pmax (axleOf c) < old.pmax (axleOf c) then
        min s.alloc.target[c] (s.settings.params.pmax (axleOf c)) else s.alloc.target[c] := mapAll_get _ _ c

/-- The write of a parameter with the targets lowered to their new Pmax (R70). -/
theorem kept_lowerTargets {s : State} {id v : Nat} (hid : id < 44)
    (hok : paramOk s.settings.params s.sampling id v = true) :
    Kept s (lowerTargets { s with settings := { s.settings with params := setParam s.settings.params id v } }
      s.settings.params) where
  table := .refl _
  secured h := h
  targets h c := by
    rw [lowerTargets_target]
    change (if _ then _ else _) ≤ (setParam s.settings.params id v).pmax (axleOf c)
    have hc := h c
    split
    · exact Nat.min_le_right _ _
    · next hlow => exact hc.trans (Nat.le_of_not_lt hlow)
  holds h := ⟨setParam_holdsOrdered hid hok h.1, h.2⟩

theorem kept_lowerHolds (s : State) (old : Params) : Kept s (lowerHolds s old) := by
  refine .of_descends ?_ id rfl rfl
  unfold lowerHolds
  dsimp only
  split
  · exact descends_mapEntries fun e e' h => by cases h; exact e.follows_capHold _
  · exact .refl _

theorem kept_enableSources (s : State) (old : Params) : Kept s (enableSources s old) :=
  (kept_settleModes _).after (kept_rise _ _)

theorem kept_writeParam {s : State} {id v : Nat} (hid : id < 44)
    (hok : paramOk s.settings.params s.sampling id v = true) : Kept s (writeParam s id v) :=
  (kept_enableSources _ _).after (((kept_lowerHolds _ _).after (kept_lowerTargets hid hok)).same rfl (fun h => h) rfl rfl)

theorem kept_writeScanParam (s : State) (id v : Nat) : Kept s (writeScanParam s id v) := by
  unfold writeScanParam
  split
  case h_3 =>
    dsimp only
    split <;> exact .of_same rfl (fun h => h) rfl rfl
  all_goals exact .of_same rfl (fun h => h) rfl rfl

theorem kept_applyParam {s : State} {id v : Nat} (hok : paramOk s.settings.params s.sampling id v = true) :
    Kept s (applyParam s id v) := by
  unfold applyParam
  split
  · next hid => exact kept_writeParam hid hok
  · exact kept_writeScanParam s id v

theorem setParamCode_accepted {s : State} {configure : Bool} {id v : Nat}
    (h : setParamCode s configure id v = .accepted) : paramOk s.settings.params s.sampling id v = true := by
  unfold setParamCode at h
  (repeat' split at h) <;> first | assumption | cases h

theorem kept_setParamRequest (s : State) (a : Address) (id : Byte) (v : BitVec 16) :
    Kept s (setParamRequest s a id v) := by
  unfold setParamRequest
  refine (kept_answer _ _ _ _ _ _ _ _).after ?_
  split
  · next h => exact kept_applyParam (setParamCode_accepted h)
  · exact .refl s

/-! ### SET_ROSTER, STORE and RESTART -/

theorem kept_applyRoster (s : State) (x : Address) (state classes scope configure : Byte) :
    Kept s (applyRoster s x state classes scope configure) := by
  unfold applyRoster
  exact (kept_putTable_descends (descends_applyRecord _ _ _ _)).after (.of_same rfl id rfl rfl)

theorem kept_setRosterRequest (s : State) (a : Address) (target state classes scope configure : Byte) :
    Kept s (setRosterRequest s a target state classes scope configure) := by
  unfold setRosterRequest
  refine (kept_plainAnswer _ _ _ _ _).after ?_
  split
  · split
    · exact kept_applyRoster _ _ _ _ _ _
    · exact .refl s
  · exact .refl s

theorem kept_startStore (s : State) (a : Address) : Kept s (startStore s a) where
  table := .refl _
  secured := id
  targets := id
  holds h := ⟨h.1, h.1⟩

theorem kept_storeRequest (s : State) (a : Address) : Kept s (storeRequest s a) := by
  unfold storeRequest
  split
  · exact kept_plainAnswer _ _ _ _ _
  · split
    · exact kept_plainAnswer _ _ _ _ _
    · exact kept_startStore s a

theorem kept_finishStore (s : State) (j : StoreJob) : Kept s (finishStore s j) := by
  unfold finishStore
  exact (kept_plainAnswer _ _ _ _ _).after { table := .refl _, secured := id, targets := id, holds := id }

theorem kept_acceptRestart (s : State) (a : Address) : Kept s (acceptRestart s a) where
  table := .refl _
  secured := id
  targets := id
  holds := id

theorem kept_restartRequest (s : State) (a : Address) : Kept s (restartRequest s a) := by
  unfold restartRequest
  (repeat' split)
  · exact kept_plainAnswer _ _ _ _ _
  · exact kept_plainAnswer _ _ _ _ _
  · exact kept_plainAnswer _ _ _ _ _
  · exact (kept_coldStart _).after (kept_acceptRestart s a)
  · exact kept_acceptRestart s a

/-! ### EXCERPT, CLEAR_TRIP, EXERCISE and EXERCISE_STOP -/

theorem kept_fillExcerpts (s : State) : Kept s (fillExcerpts s) := by
  unfold fillExcerpts
  split
  · exact .refl s
  · exact .of_same rfl id rfl rfl

theorem kept_startEmission (s : State) (r : ExcerptRequest) : Kept s (startEmission s r) :=
  (kept_fillExcerpts _).after (.of_same rfl id rfl rfl)

theorem kept_finishEmission (s : State) : Kept s (finishEmission s) := by
  unfold finishEmission
  split
  · exact .of_same rfl id rfl rfl
  · exact (kept_startEmission _ _).after (.of_same rfl id rfl rfl)

theorem kept_admitExcerpt (s : State) (a : Address) (r : ExcerptRequest) : Kept s (admitExcerpt s a r) := by
  unfold admitExcerpt
  split
  · exact (kept_answer _ _ _ _ _ _ _ _).after (kept_startEmission s r)
  · split
    · exact (kept_answer _ _ _ _ _ _ _ _).after (.of_same rfl id rfl rfl)
    · exact kept_answer _ _ _ _ _ _ _ _

theorem kept_excerptRequest (s : State) (a : Address) (preset start count : Byte) :
    Kept s (excerptRequest s a preset start count) := by
  unfold excerptRequest
  split
  · exact kept_answer _ _ _ _ _ _ _ _
  · exact kept_admitExcerpt _ _ _

theorem kept_clearTripRequest (s : State) (a : Address) : Kept s (clearTripRequest s a) := by
  unfold clearTripRequest
  (repeat' split)
  · exact kept_answer _ _ _ _ _ _ _ _
  · exact kept_answer _ _ _ _ _ _ _ _
  · exact kept_answer _ _ _ _ _ _ _ _
  · exact (kept_answer _ _ _ _ _ _ _ _).after (kept_clearTrip s)

theorem kept_exerciseEngine (s : State) (a : Address) (c : Channel) (mode count : Byte) :
    Kept s (exerciseEngine s a c mode count) := by
  unfold exerciseEngine
  (repeat' split)
  · exact kept_plainAnswer _ _ _ _ _
  · exact kept_plainAnswer _ _ _ _ _
  · exact kept_plainAnswer _ _ _ _ _
  · exact (kept_plainAnswer _ _ _ _ _).after (.of_same rfl id rfl rfl)

theorem kept_exerciseRequest (s : State) (a : Address) (channel mode count : Byte) :
    Kept s (exerciseRequest s a channel mode count) := by
  unfold exerciseRequest
  (repeat' split)
  · exact kept_plainAnswer _ _ _ _ _
  · exact kept_exerciseEngine _ _ _ _ _
  · exact kept_plainAnswer _ _ _ _ _
  · exact kept_plainAnswer _ _ _ _ _

theorem kept_stopRequest (s : State) (a : Address) : Kept s (stopRequest s a) := by
  unfold stopRequest
  (repeat' split)
  · exact kept_answer _ _ _ _ _ _ _ _
  · exact kept_answer _ _ _ _ _ _ _ _
  · exact (kept_answer _ _ _ _ _ _ _ _).after (kept_endExercise s _)

/-! ### Timers of the table -/

theorem kept_deadlineEvent (s : State) (i : Slot) : Kept s (deadlineEvent s i) := by
  refine .of_descends (descends_put fun e' h => ?_) id rfl rfl
  obtain ⟨e, he, rfl⟩ := Option.map_eq_some_iff.1 h
  refine ⟨e, he, ?_⟩
  split
  · exact e.follows_lapse
  · exact .refl e

theorem fireOverride_table (s : State) : (fireOverride s).table = mapEntries s.table fun e => some e.overridden := rfl

theorem kept_fireOverride (s : State) : Kept s (fireOverride s) := by
  refine .of_descends ?_
  rw [fireOverride_table]
  exact descends_mapEntries fun e e' h => by cases h; exact e.follows_overridden

/-! ### The port -/

theorem kept_sent (s : State) (x : Transmission) : Kept s (sent s x) := by
  unfold sent
  have hport : Kept s { s with port := s.port.completed x } := .of_same rfl id rfl rfl
  dsimp only
  split
  · exact (kept_coldStart _).after hport
  · split
    · unfold excerptSent
      split
      · exact (kept_finishEmission _).after hport
      · exact (kept_fillExcerpts _).after hport
    · exact hport

theorem kept_goOffline (s : State) : Kept s (goOffline s) := .of_same rfl id rfl rfl

theorem kept_notSent (s : State) (x : Transmission) (why : TransmitFault) : Kept s (notSent s x why) := by
  unfold notSent
  have hport : Kept s { s with port := s.port.failed x why } := .of_same rfl id rfl rfl
  dsimp only
  split
  · exact hport
  · split
    · exact (kept_coldStart _).after ((kept_goOffline _).after hport)
    · exact (kept_goOffline _).after hport

/-! ### Lines -/

theorem kept_doorSettled (s : State) : Kept s (doorSettled s) := by
  unfold doorSettled
  have hdoor : Kept s (evalDoorMoving { s with door := s.door.reread }) :=
    (kept_evalDoorMoving _).after (.of_same rfl id rfl rfl)
  dsimp only
  split
  · exact hdoor
  · next h =>
    split
    · refine (kept_postDoor fun hsec => h ?_).after hdoor
      have : s.coord.state = .secured := hsec
      simp [securingOrSecured, this]
    · exact (kept_releaseDoor _).after hdoor

theorem kept_switchSettled (s : State) : Kept s (switchSettled s) := by
  unfold switchSettled
  have hswitch : Kept s { s with parkSwitch := s.parkSwitch.reread } := .of_same rfl id rfl rfl
  dsimp only
  split
  · exact hswitch
  · split
    · exact (kept_postSwitch _).after hswitch
    · exact (kept_releaseSwitch _).after hswitch

theorem kept_ignitionOff (s : State) : Kept s (ignitionOff s) := by
  unfold ignitionOff
  (repeat' split)
  · exact .refl s
  · exact kept_enterSecuring s
  · exact .of_same rfl id rfl rfl

theorem kept_ignitionOn (s : State) : Kept s (ignitionOn s) := by
  unfold ignitionOn
  split
  · exact kept_returnFromSecuring s
  · exact kept_wake s
  all_goals exact .of_same rfl id rfl rfl

theorem kept_ignitionChanged (s : State) (active : Bool) : Kept s (ignitionChanged s active) := by
  unfold ignitionChanged
  dsimp only
  split
  · exact (kept_ignitionOn _).after (.of_same rfl id rfl rfl)
  · exact (kept_ignitionOff _).after (.of_same rfl id rfl rfl)

theorem kept_driveChanged (s : State) (active : Bool) : Kept s (driveChanged s active) :=
  (kept_coordinatorDrive _).after ((kept_evalOverride _).after (.of_same rfl id rfl rfl))

theorem kept_cutOutChanged (s : State) (active : Bool) : Kept s (cutOutChanged s active) :=
  (kept_settleModes _).after ((kept_setActive _ _).after (.of_same rfl id rfl rfl))

/-! ### Valves and the coordinator's timers -/

theorem kept_exercisePeriod (s : State) (formed : Bool) : Kept s (exercisePeriod s formed) :=
  Kept.ite ((kept_endExercise _ _).after (.of_same rfl id rfl rfl)) (.of_same rfl id rfl rfl)

theorem kept_modulationStart (s : State) : Kept s (modulationStart s) :=
  (kept_exercisePeriod _ _).after (.of_same rfl id rfl rfl)

theorem kept_stallExpired (s : State) : Kept s (stallExpired s) :=
  (kept_settleModes _).after ((kept_setActive _ _).after (.of_same rfl id rfl rfl))

theorem kept_retryExpired (s : State) : Kept s (retryExpired s) := by
  unfold retryExpired
  dsimp only
  (repeat' split)
  · exact .of_same rfl id rfl rfl
  · exact .of_same rfl id rfl rfl
  · exact (kept_evaluateRelease _).after (.of_same rfl id rfl rfl)

theorem kept_settleExpired (s : State) : Kept s (settleExpired s) :=
  (kept_evalStopHold _).after (.of_same rfl id rfl rfl)

theorem kept_dwellExpired (s : State) : Kept s (dwellExpired s) := by
  unfold dwellExpired
  dsimp only
  split
  · exact (kept_considerPromotion _).after (.of_same rfl id rfl rfl)
  · exact .of_same rfl id rfl rfl

theorem kept_withheldExpired (s : State) : Kept s (withheldExpired s) := by
  unfold withheldExpired
  split
  · exact kept_undoDriveOff s
  · exact .of_same rfl id rfl rfl

theorem kept_statusExpired (s : State) : Kept s (statusExpired s) :=
  (kept_formStatus s).same rfl id rfl rfl

theorem kept_clearSuspect (s : State) (c : Channel) : Kept s (clearSuspect s c) := kept_setWheel s c _

/-! ### Commands and steps -/

/-- Every command keeps the invariants. -/
theorem keptBy_exec (c : Instr) (s : State) : KeptBy s (exec c s) := by
  cases c with
  | post a cb sb v life opts gate =>
    exact keptBy_request (kept_notEnrolled _ _ _ _ _ _) fun t => keptBy_postRequest t a cb sb life opts gate v
  | refresh a cb =>
    exact keptBy_request (kept_notEnrolled _ _ _ _ _ _) fun t => keptBy_next (kept_refreshRequest t a cb)
  | release a cb =>
    exact keptBy_request (kept_notEnrolled _ _ _ _ _ _) fun t => keptBy_next (kept_releaseRequest t a cb)
  | excerpt a preset start count =>
    exact keptBy_request (kept_notEnrolled _ _ _ _ _ _) fun t => keptBy_next (kept_excerptRequest t a preset start count)
  | setParam a id v =>
    exact keptBy_request (kept_answer _ _ _ _ _ _ _ _) fun t => keptBy_next (kept_setParamRequest t a id v)
  | setRoster a target state classes scope configure =>
    exact keptBy_request (kept_notEnrolled _ _ _ _ _ _) fun t =>
      keptBy_next (kept_setRosterRequest t a target state classes scope configure)
  | store a => exact keptBy_request (kept_notEnrolled _ _ _ _ _ _) fun t => keptBy_next (kept_storeRequest t a)
  | clearTrip a => exact keptBy_request (kept_notEnrolled _ _ _ _ _ _) fun t => keptBy_next (kept_clearTripRequest t a)
  | exercise a channel mode count =>
    exact keptBy_request (kept_notEnrolled _ _ _ _ _ _) fun t => keptBy_next (kept_exerciseRequest t a channel mode count)
  | exerciseStop a => exact keptBy_request (kept_notEnrolled _ _ _ _ _ _) fun t => keptBy_next (kept_stopRequest t a)
  | restart a => exact keptBy_request (kept_notEnrolled _ _ _ _ _ _) fun t => keptBy_next (kept_restartRequest t a)
  | malformedFrame a code kind =>
    intro t h
    simp only [exec, execMalformedFrame] at h
    split at h
    · cases h; exact .of_same rfl (fun h => h) rfl rfl
    · cases h
  | ignoredFrame why =>
    intro t h
    simp only [exec, execIgnoredFrame] at h
    split at h
    · cases h; exact .refl s
    · cases h
  | deadlineExpiry i => exact keptBy_next (kept_deadlineEvent s i)
  | allocationPeriod => exact keptBy_next (kept_allocate s).when
  | holdOverride => exact keptBy_next (kept_fireOverride s).when
  | muteExpiry a => exact keptBy_next (.of_same rfl id rfl rfl)
  | transmitStart =>
    refine keptBy_next ?_
    split
    · exact .of_same rfl id rfl rfl
    · exact .refl s
  | transmitComplete =>
    refine keptBy_next ?_
    split
    · exact kept_sent s _
    · exact .refl s
  | transmitFailure why =>
    refine keptBy_next ?_
    split
    · exact kept_notSent s _ why
    · exact .refl s
  | recoveryWaitExpiry => exact keptBy_next (Kept.when (.of_same rfl id rfl rfl))
  | coldStart => exact keptBy_next (kept_coldStart s)
  | debouncedLineChange line active =>
    refine keptBy_next ?_
    split <;> exact .of_same rfl id rfl rfl
  | debounceExpiry line =>
    refine keptBy_next ?_
    split
    · exact (kept_doorSettled s).when
    · exact (kept_switchSettled s).when
  | driveRequestChange active =>
    refine keptBy_next ?_
    split
    · exact .refl s
    · exact kept_driveChanged s active
  | ignitionChange active =>
    refine keptBy_next ?_
    split
    · exact .refl s
    · exact kept_ignitionChanged s active
  | brakeCutOutChange active =>
    refine keptBy_next ?_
    split
    · exact .refl s
    · exact kept_cutOutChanged s active
  | toothEdge c => exact keptBy_next (kept_toothEdge s c)
  | toothTimeout c => exact keptBy_next (kept_setWheel s c _).when
  | suspectSetExpiry c => exact keptBy_next (kept_markSuspect s c).when
  | suspectClearExpiry c => exact keptBy_next (kept_clearSuspect s c).when
  | conversionComplete raw => exact keptBy_next (kept_conversionEvent s raw)
  | scanTriggerExpiry => exact keptBy_next (.of_same rfl id rfl rfl)
  | watchTimerExpiry => exact keptBy_next (.of_same rfl id rfl rfl)
  | modulationPeriodStart => exact keptBy_next (kept_modulationStart s).when
  | modulatorPulseStart c => exact keptBy_next (.of_same rfl id rfl rfl)
  | modulatorPulseEnd c => exact keptBy_next (.of_same rfl id rfl rfl)
  | parkPulseEnd => exact keptBy_next (.of_same rfl id rfl rfl)
  | confirmationWindowExpiry => exact keptBy_next (.of_same rfl id rfl rfl)
  | retryTimerExpiry => exact keptBy_next (kept_retryExpired s).when
  | stallTimerExpiry => exact keptBy_next (kept_stallExpired s).when
  | settleTimerExpiry => exact keptBy_next (kept_settleExpired s).when
  | dwellExpiry => exact keptBy_next (kept_dwellExpired s).when
  | quietWindowExpiry =>
    refine keptBy_next (Kept.when ?_)
    split
    · exact kept_quietExpired s
    · exact .of_same rfl id rfl rfl
  | withheldReleaseExpiry => exact keptBy_next (kept_withheldExpired s).when
  | springCycleEntryExpiry => exact keptBy_next (.of_same rfl id rfl rfl)
  | statusPeriodExpiry => exact keptBy_next (kept_statusExpired s).when
  | storeComplete =>
    refine keptBy_next ?_
    split
    · exact (kept_finishStore s _).when
    · exact .refl s

/-- Every step keeps the invariants: one of a waiting command, of a due event, or of a tick. -/
theorem keptBy_step (s : State) : KeptBy s (step s) := by
  unfold step takeFront
  split
  · unfold idle
    split
    · exact keptBy_next (.of_same rfl id rfl rfl)
    · exact fun t h => (keptBy_exec _ _ t h).after (.of_same rfl id rfl rfl)
  · exact fun t h => (keptBy_exec _ _ t h).after (.of_same rfl id rfl rfl)

/-- Settles O55: no operation puts an entry other than PARK into the table of a SECURED bus. -/
theorem securedHoldsParksOnly : Obligations.SecuredHoldsParksOnly :=
  fun s t hs h => (keptBy_step s t h).secured hs

/-- Settles O56, each bound from what every step keeps. -/
theorem blendsStayBounded : Obligations.BlendsStayBounded :=
  ⟨fun s t hs h => (keptBy_step s t h).table.blends hs, fun s t hs h => (keptBy_step s t h).targets hs,
    fun s t hs h => (keptBy_step s t h).holds hs, fun s t hs h => (keptBy_step s t h).table.keys hs⟩

end Sys2Proof.Machine
end

section
/-!
PROOFS. The demand requests: the common path from an ENROLLED sender, the fields a POST records, what a reply leaves
unchanged, and the obligations on POST, REFRESH, RELEASE, the deadline and the hold override (R9 to R22, R33, R37, R38).
-/

namespace Sys2Proof.Machine

open Sys2Proof.Safety

-- One theorem after another: elaborated all at once they need more thread stacks than the check's memory limit grants.
set_option Elab.async false

/-! ### PARK entries of a table -/

theorem anyPark_iff (t : Table) : anyPark t = true ↔ ∃ (i : Slot) (e : Entry), t[i] = some e ∧ e.cls = .park := by
  unfold anyPark
  rw [List.any_eq_true]
  constructor
  · rintro ⟨i, -, h⟩
    split at h
    · next e he => exact ⟨i, e, he, of_decide_eq_true h⟩
    · cases h
  · rintro ⟨i, e, he, hc⟩
    exact ⟨i, List.mem_finRange i, by simp [he, hc]⟩

/-- Two tables with PARK entries in the same slots. -/
theorem anyPark_congr {t u : Table}
    (h : ∀ i : Slot, (∃ e, t[i] = some e ∧ e.cls = .park) ↔ ∃ e, u[i] = some e ∧ e.cls = .park) :
    anyPark t = anyPark u := by
  rw [Bool.eq_iff_iff, anyPark_iff, anyPark_iff]
  exact exists_congr h

theorem anyPark_put {t : Table} {i : Slot} {o : Option Entry}
    (h : (∃ e, o = some e ∧ e.cls = .park) ↔ ∃ e, t[i] = some e ∧ e.cls = .park) : anyPark (put t i o) = anyPark t := by
  refine anyPark_congr fun j => ?_
  rw [put_slot]
  split
  next hij => subst hij; exact h
  next => exact Iff.rfl

/-- An entry replaced by one of its class. -/
theorem anyPark_put_cls {t : Table} {i : Slot} {e e' : Entry} (he : t[i] = some e) (hc : e'.cls = e.cls) :
    anyPark (put t i (some e')) = anyPark t :=
  anyPark_put (by simp [he, hc])

/-- A new entry that is not PARK. -/
theorem anyPark_put_new {t : Table} {i : Slot} {e : Entry} (hi : t[i] = none) (hc : e.cls ≠ .park) :
    anyPark (put t i (some e)) = anyPark t :=
  anyPark_put (by simp [hi, hc])

theorem anyPark_of_slot {t : Table} {i : Slot} {e : Entry} (he : t[i] = some e) (hc : e.cls = .park) :
    anyPark t = true := (anyPark_iff t).2 ⟨i, e, he, hc⟩

@[simp] theorem put_slot_same (t : Table) (i : Slot) (o : Option Entry) : (put t i o)[i] = o := put_same t i o

theorem put_slot_other (t : Table) {i j : Slot} (o : Option Entry) (h : j ≠ i) : (put t i o)[j] = t[j] :=
  put_other t i j o (Ne.symm h)

/-! ### The common path and the answer -/

/-- A request of an ENROLLED sender at an ONLINE port is acted on with its malformed count at 0 (R33, R36). -/
theorem request_enrolled {s : State} {a : Address} (absent : State) (act : State → Result)
    (hon : s.port.online = true) (hen : s.roster[a].state = .enrolled) :
    request s a absent act = act (wellFormed s a) := by
  unfold request
  rw [hon, hen]
  rfl

theorem wellFormed_roster (s : State) (a : Address) :
    (wellFormed s a).roster = put s.roster a { s.roster[a] with malformed := 0 } := rfl

theorem wellFormed_record (s : State) (a : Address) :
    (wellFormed s a).roster[a] = { s.roster[a] with malformed := 0 } := put_same _ a _

theorem answer_port (s : State) (a : Address) (k : Kind) (x : Byte) (o : AnswerCode) (u v w : Byte) :
    (answer s a k x o u v w).port = s.port.push (answerFrame s.table s.settings.params a k x o u v w) false := rfl

/-- An answer changes the port alone, and of it the queue and the count of answers dropped (R40, R42). -/
theorem answer_frame (s : State) (a : Address) (k : Kind) (x : Byte) (o : AnswerCode) (u v w : Byte) :
    answer s a k x o u v w = { s with port := (answer s a k x o u v w).port } := rfl

theorem answer_port_frame {s t : State} (a : Address) (k : Kind) (x : Byte) (o : AnswerCode) (u v w : Byte)
    (hp : t.port = s.port) : (answer t a k x o u v w).port =
      { s.port with answers := (answer t a k x o u v w).port.answers
                    answersDropped := (answer t a k x o u v w).port.answersDropped } := by
  rw [answer_port, hp]
  rfl

/-- An answer formed after a change that leaves the roster and the port is the sender's (R33, R40). -/
theorem answersSender_answer {s t : State} {a : Address} (k : Kind) (x : Byte) (o : AnswerCode) (u v w : Byte)
    (hr : t.roster = (wellFormed s a).roster) (hp : t.port = s.port) : answersSender s (answer t a k x o u v w) a :=
  ⟨by rw [answer_roster, hr, wellFormed_roster], answer_port_frame a k x o u v w hp⟩

/-- A reply in force is answered to the sender (R7, R15). -/
theorem answersSender_takeReply (s : State) (a : Address) (k : Kind) (cb : Byte) (r : TableReply) :
    answersSender s (takeReply (wellFormed s a) a k cb r) a :=
  answersSender_answer _ _ _ _ _ _ (by simp) (by simp)

@[simp] theorem takeReply_table (s : State) (a : Address) (k : Kind) (cb : Byte) (r : TableReply) :
    (takeReply s a k cb r).table = r.table := by
  unfold takeReply demandAnswer
  rw [answer_table, putTable_table]

/-- A reply that leaves park wanted as it stands changes the roster, the table and the port alone (R7, R19). -/
theorem takeReply_frame (s : State) (a : Address) (k : Kind) (cb : Byte) (r : TableReply)
    (h : anyPark r.table = anyPark s.table) :
    ∃ t, takeReply (wellFormed s a) a k cb r = t ∧
      t = { s with roster := t.roster, table := t.table, port := t.port } ∧ answersSender s t a ∧ t.table = r.table := by
  refine ⟨_, rfl, ?_, answersSender_takeReply s a k cb r, takeReply_table _ _ _ _ _⟩
  unfold takeReply
  rw [putTable_same _ _ (by rw [wellFormed_table]; exact h)]
  rfl

/-! ### The fields a POST records (R4, R5, R37, R38) -/

theorem not_securingOrSecured {s : State} (h1 : s.coord.state ≠ .securing) (h2 : s.coord.state ≠ .secured) :
    securingOrSecured s = false := by simp [securingOrSecured, h1, h2]

/-- The checks of R37 passed by a POST of a class other than PARK. -/
theorem checkPost_ok {r : RosterRecord} {cb sb : Byte} {cls : DemandClass} (hc : classOf cb = some cls)
    (hp : cls ≠ .park) (hperm : permits r.classes cls = true) (hs : scopeOf sb ≠ 0#6)
    (hw : within (scopeOf sb) r.scope = true) : checkPost r false cb sb = .ok (cls, scopeOf sb) := by
  simp [checkPost, hc, hp, hperm, hs, hw]

theorem postFields_value (cls : DemandClass) (scope : ChannelSet) (v : BitVec 16) (life opts gate : Byte) (holdMax : Nat)
    (hp : cls ≠ .park) : (postFields cls scope v life opts gate holdMax).value =
      some (min v.toNat (if cls = .hold then holdMax else 800)) := by
  cases cls
  case park => exact absurd rfl hp
  all_goals rfl

theorem postFields_policy (cls : DemandClass) (scope : ChannelSet) (v : BitVec 16) (life opts gate : Byte) (holdMax : Nat)
    (hp : cls ≠ .park) : (postFields cls scope v life opts gate holdMax).policy =
      if cls = .hold ∧ opts.getLsbD 0 = true then .freeze else .rampOut := by
  cases cls
  case park => exact absurd rfl hp
  case hold => simp [postFields, policyOf]
  all_goals rfl

theorem postFields_gate (cls : DemandClass) (scope : ChannelSet) (v : BitVec 16) (life opts gate : Byte) (holdMax : Nat)
    (hp : cls ≠ .park) : (postFields cls scope v life opts gate holdMax).gate =
      if (cls = .service ∨ cls = .hold) ∧ opts.getLsbD 1 = true then some gate else none := by
  cases cls
  case park => exact absurd rfl hp
  case service => simp [postFields, gateOf]
  case hold => simp [postFields, gateOf]
  all_goals rfl

theorem postFields_scope (cls : DemandClass) (scope : ChannelSet) (v : BitVec 16) (life opts gate : Byte) (holdMax : Nat)
    (hp : cls ≠ .park) : (postFields cls scope v life opts gate holdMax).scope = scope := by
  simp [postFields, hp]

theorem postFields_lifetime (cls : DemandClass) (scope : ChannelSet) (v : BitVec 16) (life opts gate : Byte)
    (holdMax : Nat) (hp : cls ≠ .park) : (postFields cls scope v life opts gate holdMax).lifetime =
      some (if life.toNat = 0 ∨ 250 < life.toNat then 5000 else if life.toNat < 5 then 100 else life.toNat * 20) := by
  simp only [postFields, lifetimeOf, if_neg hp]
  by_cases h0 : life.toNat = 0
  · simp [h0]
  · by_cases h5 : life.toNat < 5
    · have : ¬ 250 < life.toNat := by omega
      simp [h0, h5, this]
    · by_cases h250 : 250 < life.toNat <;> simp [h0, h5, h250]

/-- A lifetime byte from 5 to 250 is taken unclamped (R38). -/
theorem lifetime_unclamped {life : Byte} (h5 : 5 ≤ life.toNat) (h250 : life.toNat ≤ 250) :
    (if life.toNat = 0 ∨ 250 < life.toNat then 5000 else if life.toNat < 5 then 100 else life.toNat * 20) =
      life.toNat * 20 := by
  rw [if_neg (by omega), if_neg (by omega)]

/-! ### A POST that passes the checks -/

theorem exec_post (a : Address) (cb sb life opts gate : Byte) (v : BitVec 16) (s : State) :
    exec (.post a cb sb v life opts gate) s =
      request s a (notEnrolled s a .post cb 0 0) fun t => postRequest t a cb sb v life opts gate := rfl

/-- A POST that passes the checks of R37 goes to the table with the fields of R38. -/
theorem execPost_checked {a : Address} {cb sb life opts gate : Byte} {v : BitVec 16} {cls : DemandClass}
    {scope : ChannelSet} {s : State} (hon : s.port.online = true) (hen : s.roster[a].state = .enrolled)
    (hck : checkPost s.roster[a] (securingOrSecured s) cb sb = .ok (cls, scope)) :
    exec (.post a cb sb v life opts gate) s =
      postAtTable (wellFormed s a) a cls scope cb v life opts gate := by
  rw [exec_post, request_enrolled _ _ hon hen]
  unfold postRequest
  have hrec : checkPost (wellFormed s a).roster[a] (securingOrSecured (wellFormed s a)) cb sb = .ok (cls, scope) := by
    rw [wellFormed_record]; exact hck
  rw [hrec]

/-- The outcome of a checked POST by the table's reply: the stop of R3, or the reply in force. -/
theorem postAtTable_none {s : State} {a : Address} {cls : DemandClass} {scope : ChannelSet} {cb life opts gate : Byte}
    {v : BitVec 16} (h : tablePost s.table s.clock.ms s.settings.params.roomThreshold (busSource a)
      (postFields cls scope v life opts gate s.settings.params.holdMax) = none) :
    postAtTable (wellFormed s a) a cls scope cb v life opts gate = .fault .emergencyPartitionFull := by
  unfold postAtTable
  simp only [wellFormed_table, wellFormed_clock, wellFormed_settings, h]

theorem postAtTable_some {s : State} {a : Address} {cls : DemandClass} {scope : ChannelSet} {cb life opts gate : Byte}
    {v : BitVec 16} {r : TableReply} (h : tablePost s.table s.clock.ms s.settings.params.roomThreshold (busSource a)
      (postFields cls scope v life opts gate s.settings.params.holdMax) = some r) :
    postAtTable (wellFormed s a) a cls scope cb v life opts gate =
      .next (takeReply (wellFormed s a) a .post cb (r.marked (postClamped cls v life s.settings.params.holdMax))) := by
  unfold postAtTable
  simp only [wellFormed_table, wellFormed_clock, wellFormed_settings, h]

/-- A checked POST whose reply leaves park wanted as it stands. -/
theorem execPost_reply {a : Address} {cb sb life opts gate : Byte} {v : BitVec 16} {cls : DemandClass}
    {scope : ChannelSet} {s : State} {r : TableReply} (hon : s.port.online = true) (hen : s.roster[a].state = .enrolled)
    (hck : checkPost s.roster[a] (securingOrSecured s) cb sb = .ok (cls, scope))
    (hr : tablePost s.table s.clock.ms s.settings.params.roomThreshold (busSource a)
      (postFields cls scope v life opts gate s.settings.params.holdMax) = some r)
    (hpark : anyPark r.table = anyPark s.table) :
    ∃ t : State, exec (.post a cb sb v life opts gate) s = .next t ∧
      t = { s with roster := t.roster, table := t.table, port := t.port } ∧ answersSender s t a ∧ t.table = r.table := by
  rw [execPost_checked hon hen hck, postAtTable_some hr]
  obtain ⟨t, ht, hframe, hsender, htable⟩ :=
    takeReply_frame s a .post cb (r.marked (postClamped cls v life s.settings.params.holdMax)) (by rwa [marked_table])
  exact ⟨t, by rw [ht], hframe, hsender, by rw [htable, marked_table]⟩

/-! ### POST of a new key -/

theorem tablePost_new {t : Table} {now : Ms} {room : Nat} {src : Source} {f : PostFields}
    (h : findEntry t src f.cls = none) : tablePost t now room src f = createEntry t now room src f := by
  unfold tablePost
  rw [h]

/-- A new key finds its slot: the lowest vacant one of its partition, unless TEST meets the room threshold (R9). -/
theorem createEntry_vacant {t : Table} {now : Ms} {room : Nat} {src : Source} {f : PostFields} {i : Slot}
    (hi : firstVacant t (if f.cls = .emergency then emergencySlots else generalSlots) = some i)
    (hroom : f.cls = .test → room ≤ freeGeneral t) :
    createEntry t now room src f =
      some { table := put t i (some (newEntry src f now)), code := .accepted, handle := some i } := by
  unfold createEntry
  split
  · next hc => rw [if_pos hc] at hi; rw [hi]; rfl
  · next hc =>
    rw [if_neg hc] at hi
    have hopen : ¬ ((decide (f.cls = .test) && freeGeneral t != 0 && decide (freeGeneral t < room)) = true) := by
      intro hlow
      simp only [Bool.and_eq_true, decide_eq_true_eq] at hlow
      exact absurd (hroom hlow.1.1) (Nat.not_le.2 hlow.2)
    rw [if_neg hopen, hi]

/-- A new general key without a vacant slot leaves the table (R9). -/
theorem createEntry_full {t : Table} {now : Ms} {room : Nat} {src : Source} {f : PostFields}
    (hc : f.cls ≠ .emergency) (hi : firstVacant t generalSlots = none) :
    ∃ r, createEntry t now room src f = some r ∧ r.table = t := by
  unfold createEntry
  split
  · next he => exact absurd he hc
  · rw [hi]
    split <;> exact ⟨_, rfl, rfl⟩

/-- A new EMERGENCY key without a vacant slot stops the model (R3; log entry 10). -/
theorem createEntry_emergency_full {t : Table} {now : Ms} {room : Nat} {src : Source} {f : PostFields}
    (hc : f.cls = .emergency) (hi : firstVacant t emergencySlots = none) : createEntry t now room src f = none := by
  unfold createEntry
  rw [hc]
  simp [hi]

/-- Settles O6: the POST goes to the table, whose reply is the entry in the lowest vacant slot, an unchanged table, or the
stop. -/
theorem postCreates : Obligations.PostCreates := by
  unfold Obligations.PostCreates
  intro a cb sb life opts gate v cls s hon hen hcls hnp hperm hns hnsec hscope hwithin hnew
  have hck : checkPost s.roster[a] (securingOrSecured s) cb sb = .ok (cls, scopeOf sb) := by
    rw [not_securingOrSecured hns hnsec]
    exact checkPost_ok hcls hnp hperm hscope hwithin
  have htable := tablePost_new (now := s.clock.ms) (room := s.settings.params.roomThreshold)
    (f := postFields cls (scopeOf sb) v life opts gate s.settings.params.holdMax) hnew
  refine ⟨fun i hi hroom => ?_, fun hne hfull => ?_, fun he hfull => ?_⟩
  · obtain ⟨t, hexec, hframe, hsender, ht⟩ := execPost_reply hon hen hck (htable.trans (createEntry_vacant hi hroom))
      (anyPark_put_new (firstVacant_spec hi).2 hnp)
    refine ⟨t, newEntry (busSource a) (postFields cls (scopeOf sb) v life opts gate s.settings.params.holdMax) s.clock.ms,
      hexec, hframe, hsender, by rw [ht, put_slot_same], fun j hj => by rw [ht, put_slot_other _ _ hj], rfl, rfl,
      postFields_scope cls (scopeOf sb) v life opts gate s.settings.params.holdMax hnp, rfl, if_neg hnp,
      postFields_value cls (scopeOf sb) v life opts gate s.settings.params.holdMax hnp, fun h5 h250 => ?_,
      postFields_policy cls (scopeOf sb) v life opts gate s.settings.params.holdMax hnp,
      postFields_gate cls (scopeOf sb) v life opts gate s.settings.params.holdMax hnp⟩
    have hlife := postFields_lifetime cls (scopeOf sb) v life opts gate s.settings.params.holdMax hnp
    rw [lifetime_unclamped h5 h250] at hlife
    exact ⟨hlife, congrArg (deadlineFrom s.clock.ms) hlife⟩
  · obtain ⟨r, hr, hrt⟩ := createEntry_full (now := s.clock.ms) (room := s.settings.params.roomThreshold)
      (src := busSource a) (f := postFields cls (scopeOf sb) v life opts gate s.settings.params.holdMax) hne hfull
    obtain ⟨t, hexec, hframe, hsender, ht⟩ := execPost_reply hon hen hck (htable.trans hr) (by rw [hrt])
    refine ⟨t, hexec, ?_, hsender⟩
    rw [ht, hrt] at hframe
    exact hframe
  · rw [execPost_checked hon hen hck]
    exact postAtTable_none (htable.trans (createEntry_emergency_full he hfull))

/-! ### POST of a standing key -/

theorem tablePost_standing {t : Table} {now : Ms} {room : Nat} {src : Source} {f : PostFields} {i : Slot} {e : Entry}
    (h : findEntry t src f.cls = some (i, e)) : tablePost t now room src f =
      some { table := put t i (some (e.renew f now)), code := .accepted, handle := some i } := by
  unfold tablePost
  rw [h]

/-- Settles O7: the reply renews the entry in its slot. -/
theorem postRenews : Obligations.PostRenews := by
  unfold Obligations.PostRenews
  intro a cb sb life opts gate v cls i e s hon hen hcls hnp hperm hns hnsec hscope hwithin hfind
  have hck : checkPost s.roster[a] (securingOrSecured s) cb sb = .ok (cls, scopeOf sb) := by
    rw [not_securingOrSecured hns hnsec]
    exact checkPost_ok hcls hnp hperm hscope hwithin
  obtain ⟨he, -, hec⟩ := findEntry_spec hfind
  obtain ⟨t, hexec, hframe, hsender, ht⟩ := execPost_reply hon hen hck
    (tablePost_standing (f := postFields cls (scopeOf sb) v life opts gate s.settings.params.holdMax) hfind)
    (anyPark_put_cls he rfl)
  refine ⟨t, e.renew (postFields cls (scopeOf sb) v life opts gate s.settings.params.holdMax) s.clock.ms, hexec, hframe,
    hsender, by rw [ht, put_slot_same], fun j hj => by rw [ht, put_slot_other _ _ hj], rfl, hec,
    postFields_scope cls (scopeOf sb) v life opts gate s.settings.params.holdMax hnp, rfl, rfl,
    postFields_value cls (scopeOf sb) v life opts gate s.settings.params.holdMax hnp,
    postFields_policy cls (scopeOf sb) v life opts gate s.settings.params.holdMax hnp,
    postFields_gate cls (scopeOf sb) v life opts gate s.settings.params.holdMax hnp, fun l hl => ?_⟩
  have hlife := postFields_lifetime cls (scopeOf sb) v life opts gate s.settings.params.holdMax hnp
  rw [← hl] at hlife
  exact ⟨hlife, congrArg (deadlineFrom s.clock.ms) hlife⟩

/-! ### REFRESH -/

theorem exec_refresh (a : Address) (cb : Byte) (s : State) : exec (.refresh a cb) s =
    request s a (notEnrolled s a .refresh cb 0 0) fun t => .next (refreshRequest t a cb) := rfl

theorem execRefresh_reply {a : Address} {cb : Byte} {cls : DemandClass} {s : State} (hon : s.port.online = true)
    (hen : s.roster[a].state = .enrolled) (hc : classOf cb = some cls) :
    exec (.refresh a cb) s =
      .next (takeReply (wellFormed s a) a .refresh cb (tableRefresh s.table s.clock.ms (busSource a) cls)) := by
  rw [exec_refresh, request_enrolled _ _ hon hen]
  unfold refreshRequest
  rw [hc]
  rfl

theorem tableRefresh_active {t : Table} {now : Ms} {src : Source} {cls : DemandClass} {i : Slot} {e : Entry} {l : Nat}
    (h : findEntry t src cls = some (i, e)) (hs : e.state = .active) (hl : e.lifetime = some l) :
    (tableRefresh t now src cls).table = put t i (some { e with deadline := some (msAfter now l) }) := by
  simp only [tableRefresh, h, hs, hl]

theorem tableRefresh_frozen {t : Table} {now : Ms} {src : Source} {cls : DemandClass} {i : Slot} {e : Entry} {l : Nat}
    (h : findEntry t src cls = some (i, e)) (hs : e.state = .frozen) (hl : e.lifetime = some l) :
    (tableRefresh t now src cls).table =
      put t i (some { e with state := .active, deadline := some (msAfter now l) }) := by
  simp only [tableRefresh, h, hs, hl, deadlineFrom, Option.map_some]

/-- Settles O9: the reply to a REFRESH of an ACTIVE entry with a lifetime. -/
theorem refreshRestarts : Obligations.RefreshRestarts := by
  unfold Obligations.RefreshRestarts
  intro a cb cls i e l s hon hen hc hfind hst hl
  have htable := tableRefresh_active (now := s.clock.ms) hfind hst hl
  obtain ⟨t, ht, hframe, hsender, htt⟩ :=
    takeReply_frame s a .refresh cb (tableRefresh s.table s.clock.ms (busSource a) cls)
      (by rw [htable]; exact anyPark_put_cls (findEntry_spec hfind).1 rfl)
  rw [htable] at htt
  exact ⟨t, by rw [execRefresh_reply hon hen hc, ht], hframe, hsender, by rw [htt, put_slot_same]; rfl,
    fun j hj => by rw [htt, put_slot_other _ _ hj]⟩

/-! ### RELEASE -/

theorem exec_release (a : Address) (cb : Byte) (s : State) : exec (.release a cb) s =
    request s a (notEnrolled s a .release cb 0 0) fun t => .next (releaseRequest t a cb) := rfl

theorem execRelease_reply {a : Address} {cb : Byte} {cls : DemandClass} {s : State} (hon : s.port.online = true)
    (hen : s.roster[a].state = .enrolled) (hc : classOf cb = some cls) :
    exec (.release a cb) s =
      .next (takeReply (wellFormed s a) a .release cb (tableRelease s.table (busSource a) cls)) := by
  rw [exec_release, request_enrolled _ _ hon hen]
  unfold releaseRequest
  rw [hc]
  rfl

theorem tableRelease_found {t : Table} {src : Source} {cls : DemandClass} {i : Slot} {e : Entry}
    (h : findEntry t src cls = some (i, e)) (hs : e.state ≠ .retiring) :
    (tableRelease t src cls).table = put t i e.retire := by
  unfold tableRelease
  rw [h]
  dsimp only
  split
  · next hr => exact absurd hr hs
  · rfl

theorem Entry.retire_park {e : Entry} (h : e.cls = .park) : e.retire = none := if_pos h

theorem Entry.retire_other {e : Entry} (h : e.cls ≠ .park) :
    e.retire = some { e with state := .retiring, deadline := none } := if_neg h

/-- Settles O10: the reply to a RELEASE of a class other than PARK. -/
theorem releaseRetires : Obligations.ReleaseRetires := by
  unfold Obligations.ReleaseRetires
  intro a cb cls i e s hon hen hc hnp hfind hst
  obtain ⟨he, -, hec⟩ := findEntry_spec hfind
  have htable : (tableRelease s.table (busSource a) cls).table =
      put s.table i (some { e with state := .retiring, deadline := none }) := by
    rw [tableRelease_found hfind hst, Entry.retire_other (hec ▸ hnp)]
  obtain ⟨t, ht, hframe, hsender, htt⟩ :=
    takeReply_frame s a .release cb (tableRelease s.table (busSource a) cls)
      (by rw [htable]; exact anyPark_put_cls he rfl)
  rw [htable] at htt
  exact ⟨t, by rw [execRelease_reply hon hen hc, ht], hframe, hsender, by rw [htt, put_slot_same],
    fun j hj => by rw [htt, put_slot_other _ _ hj]⟩

/-! ### PARK entries of bus sources -/

/-- What an evaluation of release leaves alone (R140, R141). -/
theorem evaluateRelease_frame (s : State) :
    evaluateRelease s = { s with park := (evaluateRelease s).park, coord := (evaluateRelease s).coord } := by
  rcases evaluateRelease_cases s with ⟨-, h⟩ | ⟨-, -, h⟩ | ⟨-, -, h⟩ <;> rw [h]

theorem evaluateRelease_roster_comm (s : State) (r : Vector RosterRecord 16) :
    evaluateRelease { s with roster := r } = { evaluateRelease s with roster := r } := by
  have hpark : ({ s with roster := r } : State).park.canRelease = s.park.canRelease := rfl
  have hcond : releaseConditions { s with roster := r } = releaseConditions s := rfl
  unfold evaluateRelease
  rw [hpark, hcond]
  cases s.park.canRelease <;> cases releaseConditions s <;> rfl

theorem parkCeases_frame (s : State) :
    parkCeases s = { s with park := (parkCeases s).park, coord := (parkCeases s).coord } := by
  unfold parkCeases
  dsimp only
  split
  · rw [evaluateRelease_frame]
  · rfl

theorem parkCeases_roster_comm (s : State) (r : Vector RosterRecord 16) :
    parkCeases { s with roster := r } = { parkCeases s with roster := r } := by
  unfold parkCeases
  dsimp only
  split
  · exact evaluateRelease_roster_comm { s with park := { s.park with wanted := false } } r
  · rfl

/-- What a new table leaves alone (R7, R19). -/
theorem putTable_frame (s : State) (t : Table) :
    putTable s t = { s with table := t, park := (putTable s t).park, coord := (putTable s t).coord } := by
  unfold putTable
  dsimp only
  split
  · rfl
  · split
    · rw [parkCeases_frame]
    · rfl

theorem putTable_roster_comm (s : State) (t : Table) (r : Vector RosterRecord 16) :
    putTable { s with roster := r } t = { putTable s t with roster := r } := by
  unfold putTable
  dsimp only
  split
  · rfl
  · split
    · exact parkCeases_roster_comm { s with table := t } r
    · rfl

/-- A new table without the last PARK entry ends park wanted at the same event (R19, R138). -/
theorem putTable_ceases (s : State) (t : Table) (h : anyPark t = false) (h0 : anyPark s.table = true) :
    putTable s t = parkCeases { s with table := t } := by
  unfold putTable; simp [h, h0]

/-- A reply in force changes, beside the roster, the table and the port, what the change of PARK entries changes. -/
theorem takeReply_park (s : State) (a : Address) (k : Kind) (cb : Byte) (r : TableReply) :
    ∃ t, takeReply (wellFormed s a) a k cb r = t ∧
      t = { s with roster := t.roster, table := t.table, port := t.port, park := t.park, coord := t.coord } ∧
      answersSender s t a ∧ t.table = r.table ∧ t.park = (putTable s r.table).park ∧
      t.coord = (putTable s r.table).coord := by
  have hput : putTable (wellFormed s a) r.table = { putTable s r.table with roster := (wellFormed s a).roster } :=
    putTable_roster_comm s r.table _
  refine ⟨_, rfl, ?_, answersSender_takeReply s a k cb r, takeReply_table _ _ _ _ _, ?_, ?_⟩
  · unfold takeReply demandAnswer
    rw [hput, putTable_frame]
    rfl
  · unfold takeReply demandAnswer
    rw [answer_park, hput]
  · unfold takeReply demandAnswer
    rw [answer_coord, hput]

theorem findEntry_park_none {t : Table} {src : Source} (h : anyPark t = false) : findEntry t src .park = none := by
  cases hf : findEntry t src .park with
  | none => rfl
  | some p =>
    obtain ⟨he, -, hc⟩ := findEntry_spec (i := p.1) (e := p.2) hf
    rw [anyPark_of_slot he hc] at h
    cases h

/-- Settles O8: the reply holds the first PARK entry, at which park becomes wanted and the RELEASED valve starts an apply
attempt. -/
theorem parkPostApplies : Obligations.ParkPostApplies := by
  unfold Obligations.ParkPostApplies
  intro a sb life opts gate v i s hon hen hperm h2 h3 hnone hi hrel
  have hcovers : coversDrive s.roster[a].scope = true := by rw [coversDrive, h2, h3]; rfl
  have hck : checkPost s.roster[a] (securingOrSecured s) 4 sb = .ok (.park, scopeOf sb) := by
    unfold checkPost
    simp only [show classOf 4 = some .park from rfl, hperm, hcovers, Bool.not_true, Bool.false_eq_true, if_false,
      bne_self_eq_false,
      Bool.and_false, if_true]
  have hr := (tablePost_new (now := s.clock.ms) (room := s.settings.params.roomThreshold)
    (f := postFields .park (scopeOf sb) v life opts gate s.settings.params.holdMax)
    (findEntry_park_none (src := busSource a) hnone)).trans (createEntry_vacant (i := i) hi (by intro h; cases h))
  obtain ⟨t, ht, hframe, hsender, htable, hpark, hcoord⟩ := takeReply_park s a .post 4 (TableReply.marked
    { table := put s.table i (some (newEntry (busSource a)
        (postFields .park (scopeOf sb) v life opts gate s.settings.params.holdMax) s.clock.ms))
      code := .accepted, handle := some i } (postClamped .park v life s.settings.params.holdMax))
  rw [marked_table] at htable hpark hcoord
  rw [putTable_wanted _ _ (anyPark_of_slot (put_slot_same _ i _) rfl) hnone] at hpark hcoord
  refine ⟨t, _, by rw [execPost_checked hon hen hck, postAtTable_some hr, ht], hframe, hsender,
    by rw [htable, put_slot_same], fun j hj => by rw [htable, put_slot_other _ _ hj], rfl, rfl, rfl, rfl, rfl, rfl, ?_,
    hcoord⟩
  rw [hpark]
  simp [parkBecomesWanted, Park.becomesWanted, hrel, Park.startApply, msec]

theorem Park.canRelease_applied {p : Park} (h : p.state = .applied) : p.canRelease = true := by
  simp [Park.canRelease, h]

/-- Release is evaluated with the conditions of R140: a release attempt starts (R141). -/
theorem evaluateRelease_releases {s : State} (hr : s.park.canRelease = true) (hc : releaseConditions s = true) :
    evaluateRelease s =
      { s with park := s.park.startRelease s.clock.us, coord := s.coord.releaseStarted s.clock.ms } := by
  unfold evaluateRelease; rw [hr, hc]; rfl

/-- Release is evaluated without them: RELEASE_WITHHELD is set (R140, R179). -/
theorem evaluateRelease_withholds {s : State} (hr : s.park.canRelease = true) (hc : releaseConditions s = false) :
    evaluateRelease s =
      { s with park := { s.park with withheld := true }
               coord := s.coord.withheldSet (s.clock.us + sec s.settings.params.withheldLimit) } := by
  unfold evaluateRelease; rw [hr, hc]; rfl

/-- The valve APPLIED at the event at which park ceases to be wanted evaluates release (R138, R140). -/
theorem parkCeases_applied {s : State} (ha : s.park.state = .applied) :
    parkCeases s = evaluateRelease { s with park := { s.park with wanted := false } } := if_pos ha

theorem parkCeases_releases {s : State} (ha : s.park.state = .applied) (hc : releaseConditions s = true) :
    parkCeases s = { s with park := { s.park with wanted := false }.startRelease s.clock.us
                            coord := s.coord.releaseStarted s.clock.ms } :=
  (parkCeases_applied ha).trans (evaluateRelease_releases
    (s := { s with park := { s.park with wanted := false } }) (Park.canRelease_applied ha) hc)

theorem parkCeases_withholds {s : State} (ha : s.park.state = .applied) (hc : releaseConditions s = false) :
    parkCeases s = { s with park := { s.park with wanted := false, withheld := true }
                            coord := s.coord.withheldSet (s.clock.us + sec s.settings.params.withheldLimit) } :=
  (parkCeases_applied ha).trans (evaluateRelease_withholds
    (s := { s with park := { s.park with wanted := false } }) (Park.canRelease_applied ha) hc)

theorem releaseConditions_iff {s : State} (h : anyPark s.table = false) :
    releaseConditions s = true ↔
      s.settings.params.releaseReserve ≤ supply s.sampling 1 ∧ s.circuit[(1 : CircuitId)].mode = .electronic := by
  simp [releaseConditions, h, rearElectronic]

/-- Settles O11: the reply holds no PARK entry, and release is evaluated. -/
theorem lastParkReleased : Obligations.LastParkReleased := by
  unfold Obligations.LastParkReleased
  intro a i e s hon hen hfind hst hlast happ
  obtain ⟨he, -, hec⟩ := findEntry_spec hfind
  have hreply : (tableRelease s.table (busSource a) .park).table = put s.table i none := by
    rw [tableRelease_found hfind hst, Entry.retire_park hec]
  obtain ⟨t, ht, hframe, hsender, htable, hpark, hcoord⟩ :=
    takeReply_park s a .release 4 (tableRelease s.table (busSource a) .park)
  rw [hreply] at htable hpark hcoord
  rw [putTable_ceases _ _ hlast (anyPark_of_slot he hec)] at hpark hcoord
  refine ⟨t, by rw [execRelease_reply hon hen rfl, ht], hframe, hsender, by rw [htable, put_slot_same],
    fun j hj => by rw [htable, put_slot_other _ _ hj], ?_⟩
  have hiff := releaseConditions_iff (s := { s with table := put s.table i none }) hlast
  split
  next h =>
    rw [parkCeases_releases (s := { s with table := put s.table i none }) happ (hiff.2 h)] at hpark hcoord
    exact ⟨hpark, hcoord⟩
  next h =>
    rw [parkCeases_withholds (s := { s with table := put s.table i none }) happ
      (Bool.eq_false_iff.2 fun hc => h (hiff.1 hc))] at hpark hcoord
    exact ⟨hpark, by rw [hcoord]; rfl⟩

/-! ### Timers of the table -/

theorem exec_deadlineExpiry (i : Slot) (s : State) : exec (.deadlineExpiry i) s = .next (deadlineEvent s i) := rfl

theorem deadlineEvent_frame (s : State) (i : Slot) :
    deadlineEvent s i = { s with table := (deadlineEvent s i).table } := rfl

theorem deadlineEvent_slot {s : State} {i : Slot} {e : Entry} (h : s.table[i] = some e) :
    (deadlineEvent s i).table[i] = some (if e.lapseDue s.clock.ms then e.lapse else e) := by
  show (alter s.table i _)[i.val] = _
  rw [alter_same, show s.table[i.val] = some e from h]
  rfl

theorem deadlineEvent_other (s : State) {i j : Slot} (h : j ≠ i) : (deadlineEvent s i).table[j] = s.table[j] :=
  alter_other s.table i j _ (Ne.symm h)

theorem Entry.lapseDue_of_reached {e : Entry} {now d : Ms} (hs : e.state = .active) (hd : e.deadline = some d)
    (hr : (now - d).toNat < 2147483648) : e.lapseDue now = true := by
  simp only [Entry.lapseDue, hs, hd, reached, decide_eq_true hr, decide_true, Bool.true_and]

theorem Entry.lapseDue_of_none {e : Entry} (now : Ms) (h : e.deadline = none ∨ e.state ≠ .active) :
    e.lapseDue now = false := by
  rcases h with h | h <;> simp [Entry.lapseDue, h]

theorem Entry.lapse_rampOut {e : Entry} (h : e.policy = .rampOut) :
    e.lapse = { e with state := .lapsing, deadline := none } := by
  unfold Entry.lapse; rw [h]

theorem Entry.lapse_freeze {e : Entry} (h : e.policy = .freeze) :
    e.lapse = { e with state := .frozen, deadline := none } := by
  unfold Entry.lapse; rw [h]

/-- An entry that is not due leaves the whole state at the expiry of its slot (log entry 1). -/
theorem deadlineEvent_not_due {s : State} {i : Slot} {e : Entry} (h : s.table[i] = some e)
    (hd : e.lapseDue s.clock.ms = false) : deadlineEvent s i = s := by
  have htable : (deadlineEvent s i).table = s.table := by
    refine Vector.ext fun j hj => ?_
    by_cases hij : (⟨j, hj⟩ : Slot) = i
    · subst hij
      have := deadlineEvent_slot h
      rw [hd] at this
      exact this.trans h.symm
    · exact deadlineEvent_other s hij
  rw [deadlineEvent_frame, htable]

/-! ### The blend advance (R18) -/

theorem advanced_slot (t : Table) (i : Slot) : (advanced t)[i] = t[i].bind Entry.advance := mapEntries_slot t _ i

theorem Entry.advance_park {e : Entry} (h : e.cls = .park) : e.advance = some e := if_pos h

theorem Entry.advance_active {e : Entry} (h : e.cls ≠ .park) (hs : e.state = .active) :
    e.advance = some { e with blend := min 64 (e.blend + rampIn e.cls) } := by
  simp [Entry.advance, h, hs]

theorem Entry.advance_frozen {e : Entry} (h : e.cls ≠ .park) (hs : e.state = .frozen) : e.advance = some e := by
  simp [Entry.advance, h, hs]

theorem Entry.advance_falling {e : Entry} (h : e.cls ≠ .park) (hs : e.state = .retiring ∨ e.state = .lapsing) :
    e.advance = if e.blend ≤ rampOut e.cls then none else some { e with blend := e.blend - rampOut e.cls } := by
  have hzero : (e.blend - rampOut e.cls = 0) = (e.blend ≤ rampOut e.cls) := propext Nat.sub_eq_zero_iff_le
  rcases hs with hs | hs <;> simp only [Entry.advance, if_neg h, hs, hzero]

theorem exec_allocationPeriod_due {s : State} (h : s.alloc.timer ≤ s.clock.us) :
    exec .allocationPeriod s = .next (allocate s) := by
  show Host.Outcome.next _ = _
  rw [if_pos h]

theorem reset_deadlinesOnActive : deadlinesOnActive State.reset.table := by
  intro i e h hs
  have hslots : ∀ i : Slot, (State.resetTable[i].all fun e => decide (e.deadline = none)) = true := by decide
  have := hslots i
  rw [show State.resetTable[i] = some e from h] at this
  simpa using this

/-- A due deadline lapses its entry by its policy, and its blend then falls or stands (R17, R18). -/
theorem deadlineEvent_due {i : Slot} {e : Entry} {s : State} (he : s.table[i] = some e)
    (hd : e.lapseDue s.clock.ms = true) :
    (deadlineEvent s i).table[i] = some e.lapse ∧
      (allocate (deadlineEvent s i)).table[i] = e.lapse.advance := by
  have hslot := deadlineEvent_slot he
  rw [hd, if_pos rfl] at hslot
  exact ⟨hslot, by rw [allocate_table, advanced_slot, hslot]; rfl⟩

/-- Settles O12: the expiry by the slot rules, the revivals by the replies to REFRESH and POST, and the invariant by what
every command keeps. -/
theorem deadlineLapses : Obligations.DeadlineLapses := by
  unfold Obligations.DeadlineLapses
  refine ⟨fun i e s he => ⟨fun d hact hdl hreach => ?_, fun hno => ?_⟩, ?_, ?_, reset_deadlinesOnActive,
    fun c s t hs h => (keptBy_exec c s t h).table.deadlines hs⟩
  · obtain ⟨hslot, hnext⟩ := deadlineEvent_due he (Entry.lapseDue_of_reached hact hdl hreach)
    refine ⟨_, exec_deadlineExpiry i s, deadlineEvent_frame s i, fun j hj => deadlineEvent_other s hj,
      fun hp => by rw [hslot, Entry.lapse_rampOut hp], fun hp => by rw [hslot, Entry.lapse_freeze hp],
      fun hdue hnp => ⟨_, exec_allocationPeriod_due hdue, fun hp => ?_, fun hp => ?_⟩⟩
    · rw [hnext, Entry.lapse_rampOut hp]
      exact Entry.advance_falling (e := { e with state := .lapsing, deadline := none }) hnp (.inr rfl)
    · rw [hnext, Entry.lapse_freeze hp]
      exact Entry.advance_frozen (e := { e with state := .frozen, deadline := none }) hnp rfl
  · rw [exec_deadlineExpiry, deadlineEvent_not_due he (Entry.lapseDue_of_none _ hno)]
  · intro a cb cls i e l s hon hen hc hfind hst hl
    exact ⟨_, execRefresh_reply hon hen hc, by
      rw [takeReply_table, tableRefresh_frozen hfind hst hl, put_slot_same]; rfl⟩
  · intro a cb sb life opts gate v cls i e s hon hen hc hnp hperm hns hnsec hscope hwithin h5 h250 hfind _
    obtain ⟨t, e', hexec, -, -, he', -, -, -, -, hact, -, -, -, -, hlife⟩ :=
      postRenews a cb sb life opts gate v cls i e s hon hen hc hnp hperm hns hnsec hscope hwithin hfind
    exact ⟨t, e', hexec, he', hact, (hlife _ (lifetime_unclamped h5 h250).symm).2⟩

/-! ### The hold override (R22) -/

theorem Entry.overridden_eq (e : Entry) : e.overridden =
    if e.cls = .hold ∧ e.state = .frozen then { e with state := .retiring, deadline := none } else e := by
  unfold Entry.overridden
  simp only [Bool.and_eq_true, decide_eq_true_eq]

theorem exec_holdOverride_due {s : State} {x : Nat} (h : s.override.timer = some x) (hx : x ≤ s.clock.us) :
    exec .holdOverride s = .next (fireOverride s) := by
  show Host.Outcome.next _ = _
  rw [h, due_some, if_pos (decide_eq_true hx)]

theorem fireOverride_slot (s : State) (i : Slot) :
    (fireOverride s).table[i] = s.table[i].map Entry.overridden := by
  rw [fireOverride_table, mapEntries_slot, Option.map_eq_bind]; rfl

/-- Settles O13: the firing changes the table entry by entry. -/
theorem holdOverrideFires : Obligations.HoldOverrideFires := by
  unfold Obligations.HoldOverrideFires
  intro x s hx hdue
  refine ⟨_, exec_holdOverride_due hx hdue, rfl, rfl, fun i hi => ?_, fun i e he => ?_⟩
  · rw [fireOverride_slot, hi]; rfl
  · rw [fireOverride_slot, he, Option.map_some, Entry.overridden_eq]

/-! ### Reset -/

theorem reset_entries : ∀ i : Slot, (State.resetTable[i].all fun e =>
    decide (e.blend ≤ 64) && decide (placed i e.source e.cls) && decide (16 ≤ e.source.val)) = true := by decide

theorem reset_entry {i : Slot} {e : Entry} (h : State.reset.table[i] = some e) :
    e.blend ≤ 64 ∧ placed i e.source e.cls ∧ 16 ≤ e.source.val := by
  have hall := reset_entries i
  rw [show State.resetTable[i] = some e from h] at hall
  simp only [Option.all_some, Bool.and_eq_true, decide_eq_true_eq] at hall
  exact ⟨hall.1.1, hall.1.2, hall.2⟩

theorem reset_keysInPlace : keysInPlace State.reset.table := by
  refine ⟨fun i e h => (reset_entry h).2.1, fun i j e f he hf hsrc hcls => ?_⟩
  obtain ⟨-, hi, hs⟩ := reset_entry he
  obtain ⟨-, hj, -⟩ := reset_entry hf
  exact placed_home_unique hs hi (hsrc ▸ hcls ▸ hj)

theorem reset_outputsGated : outputsGated State.reset := by
  refine ⟨by decide, by decide, fun c _ => ?_⟩
  simp [State.reset]

/-- Settles O60, block by block. -/
theorem resetMeetsInvariants : Obligations.ResetMeetsInvariants := by
  refine ⟨reset_outputsGated, ?_, ?_, fun i e h => (reset_entry h).1, ?_, rfl, ?_, ?_, reset_keysInPlace⟩
  · simp [queuesBounded, State.reset]
  · intro h; cases h
  · intro k _; simp [State.reset]
  · intro c; simp [State.reset]
  · exact ⟨factory_holds, factory_holds⟩

end Sys2Proof.Machine
end

section
/-!
PROOFS. SET_PARAM of hold_max and SET_ROSTER to ABSENT: the writes, what each leaves unchanged, and the obligations on
them (R20, R23, R30, R31, R197).
-/

namespace Sys2Proof.Machine

open Sys2Proof.Safety

-- One theorem after another: elaborated all at once they need more thread stacks than the check's memory limit grants.
set_option Elab.async false

/-! ### Parameters -/

theorem setParam_get (p : Params) {id : Nat} (v : Nat) (h : id - 1 < 43) (j : Nat) (hj : j < 43) :
    (setParam p id v)[j] = if id - 1 = j then v else p[j] := by
  unfold setParam
  rw [dif_pos h, Vector.getElem_set]

/-- Ids other than the one written stand (R197). -/
theorem setParam_other (p : Params) {id : Nat} (v : Nat) (h : id - 1 < 43) {j : Nat} (hj : j < 43) (hne : j ≠ id - 1) :
    (setParam p id v)[j] = p[j] := by
  rw [setParam_get p v h j hj, if_neg (Ne.symm hne)]

/-- No target is above a Pmax that stands (R70). -/
theorem lowerTargets_same {s : State} {old : Params} (h : ∀ axle, s.settings.params.pmax axle = old.pmax axle) :
    lowerTargets s old = s := by
  have htarget : (lowerTargets s old).alloc.target = s.alloc.target := by
    refine Vector.ext fun c hc => ?_
    have hget := lowerTargets_target s old ⟨c, hc⟩
    rw [h, if_neg (Nat.lt_irrefl _)] at hget
    exact hget
  show ({ s with alloc := { s.alloc with target := (lowerTargets s old).alloc.target } } : State) = s
  rw [htarget]

/-- A lowered hold_max caps every entry (R23). -/
theorem lowerHolds_lowered {s : State} {old : Params} (h : s.settings.params.holdMax < old.holdMax) :
    lowerHolds s old =
      { s with table := mapEntries s.table fun e => some (e.capHold s.settings.params.holdMax) } := by
  unfold lowerHolds
  rw [if_pos h]

theorem pruneCycles_same {s : State} {old : Params} (h : s.settings.params.cycleWindow = old.cycleWindow) :
    pruneCycles s old = s := by
  unfold pruneCycles
  rw [if_pos h]

theorem TripSet.minus_self (x : TripSet) : x.minus x = TripSet.none := by
  simp [TripSet.minus, TripSet.none]

theorem rise_none (s : State) : rise s TripSet.none = s := rfl

/-- Modes that follow their cause sets are left as they stand (R151). -/
theorem applyModes_same {s : State} {mode : CircuitId → Mode} (h0 : mode 0 = s.circuit[(0 : CircuitId)].mode)
    (h1 : mode 1 = s.circuit[(1 : CircuitId)].mode) : applyModes s mode = s := by
  unfold applyModes
  dsimp only
  exact if_pos (by simp [h0, h1])

theorem settleModes_same {s : State}
    (h : ∀ k : CircuitId, decideMode s.circuit[k].mode s.circuit[k].causes = s.circuit[k].mode) : settleModes s = s :=
  applyModes_same (h 0) (h 1)

theorem enableSources_same {s : State} {old : Params}
    (hen : s.trip.active.enabled s.settings.params = s.trip.active.enabled old)
    (h : ∀ k : CircuitId, decideMode s.circuit[k].mode s.circuit[k].causes = s.circuit[k].mode) :
    enableSources s old = s := by
  unfold enableSources
  rw [hen, TripSet.minus_self, rise_none, settleModes_same h]

/-- A lowering of hold_max writes the parameter and caps the HOLD values, and nothing else (R23, R197). -/
theorem writeParam_holdMax {s : State} {v : Nat} (hv : v < s.settings.params.holdMax)
    (h : ∀ k : CircuitId, decideMode s.circuit[k].mode s.circuit[k].causes = s.circuit[k].mode) :
    writeParam s 31 v =
      { s with settings := { s.settings with params := setParam s.settings.params 31 v }
               table := mapEntries s.table fun e => some (e.capHold v) } := by
  have hother {j : Nat} (hj : j < 43) (hne : j ≠ 30) : (setParam s.settings.params 31 v)[j] = s.settings.params[j] :=
    setParam_other _ v (by decide) hj hne
  have hmax : (setParam s.settings.params 31 v).holdMax = v := setParam_get _ v (by decide) 30 (by decide)
  have hpmax (axle : Fin 3) : (setParam s.settings.params 31 v).pmax axle = s.settings.params.pmax axle :=
    hother (by omega) (by omega)
  have henabled : s.trip.active.enabled (setParam s.settings.params 31 v) = s.trip.active.enabled s.settings.params := by
    simp only [TripSet.enabled, Params.undervoltOn, Params.overpressureOn, Params.scanStallOn,
      hother (show 40 < 43 by decide) (by decide), hother (show 41 < 43 by decide) (by decide),
      hother (show 42 < 43 by decide) (by decide)]
  unfold writeParam
  dsimp only
  rw [lowerTargets_same, lowerHolds_lowered, pruneCycles_same, enableSources_same]
  · simp only [hmax]
  · exact henabled
  · exact h
  · exact hother (show 35 < 43 by decide) (by decide)
  · exact hmax.trans_lt hv
  · exact hpmax

theorem setParamCode_holdMax {s : State} {v : Nat} (hst : s.coord.state = .autoPark) (hstore : s.settings.store = none)
    (hlo : 100 ≤ v) (hmin : s.settings.params.holdMin ≤ v) (hhi : v ≤ 800) : setParamCode s true 31 v = .accepted := by
  have hmax : (setParam s.settings.params 31 v).holdMax = v := setParam_get _ v (by decide) 30 (by decide)
  have hmin' : (setParam s.settings.params 31 v).holdMin = s.settings.params.holdMin :=
    setParam_other _ v (by decide) (show 29 < 43 by decide) (by decide)
  have hok : paramOk s.settings.params s.sampling 31 v = true := by
    simp [paramOk, inRange, paramRanges, jointOk, hmax, hmin', hlo, hhi, hmin]
  simp [setParamCode, hst, hstore, hok]

theorem exec_setParam (a : Address) (id : Byte) (v : BitVec 16) (s : State) : exec (.setParam a id v) s =
    request s a (paramAnswer s a id .notEnrolled) fun t => .next (setParamRequest t a id v) := rfl

theorem setParamRequest_accepted {s : State} {a : Address} {id : Byte} {v : BitVec 16}
    (h : setParamCode s s.roster[a].configure id.toNat v.toNat = .accepted) :
    setParamRequest s a id v = paramAnswer (applyParam s id.toNat v.toNat) a id .accepted := by
  unfold setParamRequest
  rw [h]
  rfl

theorem Entry.capHold_eq (e : Entry) (m : Nat) : e.capHold m =
    if e.cls = .hold then { e with value := e.value.map fun x => min x m } else e := by
  unfold Entry.capHold
  rw [show min m = fun x => min x m from funext (Nat.min_comm m)]

/-- Settles O23: an accepted write of hold_max below the standing one. -/
theorem holdMaxLowers : Obligations.HoldMaxLowers := by
  unfold Obligations.HoldMaxLowers
  intro a v s hon hen hconf hst hstore hlo hmin hv hhi hmodes
  have hcode : setParamCode (wellFormed s a) (wellFormed s a).roster[a].configure (31 : Byte).toNat v.toNat = .accepted := by
    rw [wellFormed_record]
    show setParamCode (wellFormed s a) s.roster[a].configure 31 v.toNat = _
    rw [hconf]
    exact setParamCode_holdMax hst hstore hlo hmin hhi
  have hwrite : applyParam (wellFormed s a) (31 : Byte).toNat v.toNat = _ :=
    writeParam_holdMax (s := wellFormed s a) hv hmodes
  refine ⟨_, by rw [exec_setParam, request_enrolled _ _ hon hen, setParamRequest_accepted hcode], ?_, ?_, ?_,
    fun j hj => ?_, ?_, fun i hi => ?_, fun i e he => ?_⟩
  all_goals rw [hwrite]
  · rfl
  · exact answersSender_answer _ _ _ _ _ _ rfl rfl
  · rfl
  · exact setParam_other _ _ (by decide) j.isLt hj
  · exact setParam_get _ _ (by decide) 30 (by decide)
  · show (mapEntries s.table _)[i] = none
    rw [mapEntries_slot, hi]; rfl
  · show (mapEntries s.table _)[i] = _
    rw [mapEntries_slot, he, Option.bind_some, Entry.capHold_eq]

/-! ### SET_ROSTER to ABSENT -/

/-- The empty record of an ABSENT address (R28). -/
def emptyRecord : RosterRecord :=
  { state := .absent, classes := 0, scope := 0, configure := false, malformed := 0, muteTimer := none }

theorem newRecord_absent (old : RosterRecord) (cl sc cf : Byte) : newRecord old false cl sc cf = emptyRecord := rfl

theorem changedRoster_absent (roster : Vector RosterRecord 16) (x : Address) (cl sc cf : Byte) :
    changedRoster roster x 0 cl sc cf = put roster x emptyRecord := rfl

theorem put_record_same (roster : Vector RosterRecord 16) (x : Address) (r : RosterRecord) : (put roster x r)[x] = r :=
  put_same roster x r

theorem put_record_other (roster : Vector RosterRecord 16) {x y : Address} (r : RosterRecord) (h : y ≠ x) :
    (put roster x r)[y] = roster[y] := put_other roster x y r (Ne.symm h)

theorem configurable_of {roster : Vector RosterRecord 16} {b : Address} (hs : roster[b].state ≠ .absent)
    (hc : roster[b].configure = true) : configurable roster = true := by
  unfold configurable
  rw [List.any_eq_true]
  refine ⟨b, List.mem_finRange b, ?_⟩
  rw [hc, Bool.and_true, bne_iff_ne]
  exact hs

theorem target_toNat (x : Address) : (BitVec.ofNat 8 x.val).toNat = x.val := by
  rw [BitVec.toNat_ofNat]; omega

theorem target_address (x : Address) (h : (BitVec.ofNat 8 x.val).toNat < 16) :
    (⟨(BitVec.ofNat 8 x.val).toNat, h⟩ : Address) = x := Fin.ext (target_toNat x)

theorem target_lt (x : Address) : (BitVec.ofNat 8 x.val).toNat < 16 := by rw [target_toNat]; exact x.isLt

theorem setRosterCode_absent {s : State} {x b : Address} {cl sc cf : Byte} (hst : s.coord.state = .autoPark)
    (hstore : s.settings.store = none) (hbx : b ≠ x) (hb : s.roster[b].state ≠ .absent)
    (hbc : s.roster[b].configure = true) :
    setRosterCode s true (BitVec.ofNat 8 x.val) 0 cl sc cf = .accepted := by
  have hconf : configurable (changedRoster s.roster x 0 cl sc cf) = true := by
    rw [changedRoster_absent]
    exact configurable_of (b := b) (by rw [put_record_other _ _ hbx]; exact hb)
      (by rw [put_record_other _ _ hbx]; exact hbc)
  have hfields : rosterFieldsOk (changedRoster s.roster x 0 cl sc cf) s.table false cl cf = true := by
    unfold rosterFieldsOk
    rw [hconf]
    rfl
  unfold setRosterCode
  rw [hst, hstore, dif_pos (target_lt x), target_address x (target_lt x)]
  exact if_pos hfields

theorem exec_setRoster (a : Address) (target state cl sc cf : Byte) (s : State) :
    exec (.setRoster a target state cl sc cf) s =
      request s a (notEnrolled s a .setRoster target 0 0) fun t =>
        .next (setRosterRequest t a target state cl sc cf) := rfl

theorem setRosterRequest_accepted {s : State} {a x : Address} {state cl sc cf : Byte}
    (h : setRosterCode s s.roster[a].configure (BitVec.ofNat 8 x.val) state cl sc cf = .accepted) :
    setRosterRequest s a (BitVec.ofNat 8 x.val) state cl sc cf =
      plainAnswer (applyRoster s x state cl sc cf) a .setRoster (BitVec.ofNat 8 x.val) .accepted := by
  unfold setRosterRequest
  dsimp only
  rw [h, if_pos rfl, dif_pos (target_lt x), target_address x (target_lt x)]

theorem permits_empty (cls : DemandClass) : permits 0 cls = false := by cases cls <;> rfl

theorem applyRecord_slot (t : Table) (x : Address) (i : Slot) :
    (applyRecord t x 0 0)[i] = t[i].bind fun e => if e.source.val = x.val then e.retire else some e := by
  have hsrc (e : Entry) : (e.source = busSource x) = (e.source.val = x.val) := propext Fin.ext_iff
  unfold applyRecord
  rw [mapEntries_slot]
  simp only [hsrc, Entry.underRecord, permits_empty, Bool.not_false, if_true]

theorem applyRoster_absent (s : State) (x : Address) (cl sc cf : Byte) :
    applyRoster s x 0 cl sc cf =
      putTable { s with roster := put s.roster x emptyRecord } (applyRecord s.table x 0 0) := by
  unfold applyRoster
  dsimp only
  rw [changedRoster_absent, put_record_same]
  rfl

theorem applyRoster_absent_frame (s : State) (x : Address) (cl sc cf : Byte) :
    applyRoster s x 0 cl sc cf =
      { s with roster := (applyRoster s x 0 cl sc cf).roster, table := (applyRoster s x 0 cl sc cf).table
               park := (applyRoster s x 0 cl sc cf).park, coord := (applyRoster s x 0 cl sc cf).coord } ∧
    (applyRoster s x 0 cl sc cf).table = applyRecord s.table x 0 0 ∧
    (applyRoster s x 0 cl sc cf).roster = put s.roster x emptyRecord := by
  rw [applyRoster_absent]
  exact ⟨by rw [putTable_frame], putTable_table _ _, by rw [putTable_frame]⟩

theorem applyRoster_absent_same {s : State} {x : Address} (cl sc cf : Byte)
    (h : anyPark (applyRecord s.table x 0 0) = anyPark s.table) :
    (applyRoster s x 0 cl sc cf).park = s.park ∧ (applyRoster s x 0 cl sc cf).coord = s.coord := by
  have hput := putTable_same { s with roster := put s.roster x emptyRecord } (applyRecord s.table x 0 0) h
  rw [applyRoster_absent, hput]
  exact ⟨rfl, rfl⟩

/-- Settles O24: the record is written and the table applies the empty permissions to the entries of its address. -/
theorem rosterWithdrawn : Obligations.RosterWithdrawn := by
  unfold Obligations.RosterWithdrawn
  intro a x b cl sc cf s hon hen hconf hst hstore hbx hb hbc
  have hother (y : Address) (hy : y ≠ a) : (wellFormed s a).roster[y] = s.roster[y] := put_record_other _ _ hy
  have hb' : (wellFormed s a).roster[b].state = s.roster[b].state ∧
      (wellFormed s a).roster[b].configure = s.roster[b].configure := by
    by_cases hba : b = a
    · subst hba; rw [wellFormed_record]; exact ⟨rfl, rfl⟩
    · rw [hother b hba]; exact ⟨rfl, rfl⟩
  have hcode : setRosterCode (wellFormed s a) (wellFormed s a).roster[a].configure (BitVec.ofNat 8 x.val) 0 cl sc cf =
      .accepted := by
    rw [wellFormed_record]
    show setRosterCode (wellFormed s a) s.roster[a].configure _ 0 cl sc cf = _
    rw [hconf]
    exact setRosterCode_absent hst hstore hbx (by rw [hb'.1]; exact hb) (by rw [hb'.2]; exact hbc)
  obtain ⟨happly, htable, hroster⟩ := applyRoster_absent_frame (wellFormed s a) x cl sc cf
  have hport : (applyRoster (wellFormed s a) x 0 cl sc cf).port = s.port := by rw [happly]; rfl
  refine ⟨_, by rw [exec_setRoster, request_enrolled _ _ hon hen, setRosterRequest_accepted hcode], ?_, ?_,
    fun y hyx hya => ?_, fun hax => ?_, ?_, fun hpark => ?_, fun i hi => ?_, fun i e he => ?_⟩ <;> unfold plainAnswer
  · exact congrArg (fun u : State => { u with port := (answer (applyRoster (wellFormed s a) x 0 cl sc cf) a .setRoster
      (BitVec.ofNat 8 x.val) .accepted 0xFF 0 0).port }) happly
  · rw [answer_roster, hroster, put_record_same]; rfl
  · rw [answer_roster, hroster, put_record_other _ _ hyx, hother y hya]
  · rw [answer_roster, hroster, put_record_other _ _ hax, wellFormed_record]
  · exact answer_port_frame _ _ _ _ _ _ _ hport
  · unfold plainAnswer at hpark
    rw [answer_table, htable] at hpark
    rw [answer_park, answer_coord]
    exact applyRoster_absent_same cl sc cf hpark.symm
  · rw [answer_table, htable, wellFormed_table, applyRecord_slot, hi]; rfl
  · rw [answer_table, htable, wellFormed_table, applyRecord_slot, he, Option.bind_some]; rfl

end Sys2Proof.Machine
end

section
/-!
PROOFS. The home slots and the cab lines: what a post, a release and an expiry of a debounce do, and the obligation on the
door and the park switch (R16, R19, R52, R54, R61 to R63).
-/

namespace Sys2Proof.Machine

open Sys2Proof.Safety

-- One theorem after another: elaborated all at once they need more thread stacks than the check's memory limit grants.
set_option Elab.async false

/-! ### Home slots -/

theorem homePost_vacant {t : Table} {i : Slot} (src : Source) (f : PostFields) (now : Ms) (h : t[i] = none) :
    homePost t i src f now = put t i (some (newEntry src f now)) := by
  unfold homePost; rw [h]

theorem homePost_standing {t : Table} {i : Slot} {e : Entry} (src : Source) (f : PostFields) (now : Ms)
    (h : t[i] = some e) : homePost t i src f now = put t i (some (e.renew f now)) := by
  unfold homePost; rw [h]

theorem homePost_other (t : Table) {i j : Slot} (src : Source) (f : PostFields) (now : Ms) (h : j ≠ i) :
    (homePost t i src f now)[j] = t[j] := put_slot_other _ _ h

theorem homeRelease_vacant {t : Table} {i : Slot} (h : t[i] = none) : homeRelease t i = t := by
  unfold homeRelease; rw [h]

theorem homeRelease_retire {t : Table} {i : Slot} {e : Entry} (h : t[i] = some e) (hs : e.state ≠ .retiring) :
    homeRelease t i = put t i e.retire := by
  unfold homeRelease; rw [h]; exact if_neg hs

theorem homeRelease_retiring {t : Table} {i : Slot} {e : Entry} (h : t[i] = some e) (hs : e.state = .retiring) :
    homeRelease t i = t := by
  unfold homeRelease; rw [h]; exact if_pos hs

theorem homeRelease_other (t : Table) {i j : Slot} (h : j ≠ i) : (homeRelease t i)[j] = t[j] := by
  unfold homeRelease
  split
  · rfl
  · split
    · rfl
    · exact put_slot_other _ _ h

/-- A PARK entry of an internal source as it is created (R10, R19). -/
def parkEntry (src : Source) : Entry :=
  { source := src, cls := .park, scope := 0b001100#6, value := none, lifetime := none, deadline := none, policy := .freeze,
    gate := none, state := .active, blend := 64 }

theorem newEntry_park (src : Source) (now : Ms) : newEntry src parkFields now = parkEntry src := rfl

theorem anyPark_homePost_park {t : Table} {i : Slot} {src : Source} {now : Ms} (h : t[i] = none) :
    anyPark (homePost t i src parkFields now) = true := by
  rw [homePost_vacant _ _ _ h]
  exact anyPark_of_slot (put_slot_same _ i _) rfl

/-! ### The park valve at the event of a new table -/

theorem Park.becomesWanted_applied {p : Park} (now : Nat) (h : p.state = .applied ∨ p.state = .applying) :
    p.becomesWanted now = { p with wanted := true, withheld := false } := by
  rcases h with h | h <;> (unfold Park.becomesWanted; rw [h])

/-- RELEASED and PARK_FAULT start an apply attempt when park becomes wanted (R138, R143). -/
theorem Park.becomesWanted_starts {p : Park} (now : Nat) (h : p.state = .released ∨ p.state = .parkFault) :
    p.becomesWanted now = { p with state := .applying, step := some .pulse, pulses := 1, wanted := true, withheld := false,
                                   pulseTimer := some (now + 150000), confirmTimer := none, retryTimer := none,
                                   applyPending := false } := by
  rcases h with h | h <;> (unfold Park.becomesWanted; rw [h]; rfl)

theorem Park.becomesWanted_pending {p : Park} (now : Nat) (h : p.state = .releasing) (hs : p.step = some .pulse) :
    p.becomesWanted now = { p with wanted := true, withheld := false, applyPending := true } := by
  unfold Park.becomesWanted; rw [h]; exact if_pos hs

theorem parkCeases_other {s : State} (h : s.park.state ≠ .applied) :
    parkCeases s = { s with park := { s.park with wanted := false } } := if_neg h

theorem releaseConditions_of {s : State} (h : anyPark s.table = false)
    (hs : s.settings.params.releaseReserve ≤ supply s.sampling 1) (hm : s.circuit[(1 : CircuitId)].mode = .electronic) :
    releaseConditions s = true := (releaseConditions_iff h).2 ⟨hs, hm⟩

theorem releaseConditions_not {s : State} (h : anyPark s.table = false)
    (hs : supply s.sampling 1 < s.settings.params.releaseReserve ∨ s.circuit[(1 : CircuitId)].mode ≠ .electronic) :
    releaseConditions s = false := by
  refine Bool.eq_false_iff.2 fun hc => ?_
  obtain ⟨hle, hm⟩ := (releaseConditions_iff h).1 hc
  rcases hs with hs | hs
  · exact absurd hle (Nat.not_le.2 hs)
  · exact hs hm

/-! ### The door -/

theorem exec_debounce_door {s : State} {x : Nat} (h : s.door.timer = some x) (hx : x ≤ s.clock.us) :
    exec (.debounceExpiry .doorOpen) s = .next (doorSettled s) := by
  show Host.Outcome.next _ = _
  rw [h, due_some, if_pos (decide_eq_true hx)]

theorem exec_debounce_switch {s : State} {x : Nat} (h : s.parkSwitch.timer = some x) (hx : x ≤ s.clock.us) :
    exec (.debounceExpiry .parkSwitch) s = .next (switchSettled s) := by
  show Host.Outcome.next _ = _
  rw [h, due_some, if_pos (decide_eq_true hx)]

theorem securingOrSecured_of {s : State} (h : s.coord.state = .securing ∨ s.coord.state = .secured) :
    securingOrSecured s = true := by
  rcases h with h | h <;> simp [securingOrSecured, h]

/-- DOOR_OPEN_MOVING outside SECURING and SECURED follows the door and the speed (R62). -/
theorem evalDoorMoving_outside {s : State} (h : securingOrSecured s = false) :
    evalDoorMoving s = { s with doorOpenMoving := s.door.state && decide (30 < s.vref) } := by
  unfold evalDoorMoving doorMoving
  rw [h]
  rfl

theorem evalDoorMoving_securing {s : State} (h : securingOrSecured s = true) :
    evalDoorMoving s = { s with doorOpenMoving := false } := by
  unfold evalDoorMoving doorMoving
  rw [h]
  rfl

theorem doorSettled_securing {s : State} (h : securingOrSecured s = true) :
    doorSettled s = { s with door := s.door.reread, doorOpenMoving := false } := by
  unfold doorSettled
  dsimp only
  rw [h, Bool.or_true, if_pos rfl, evalDoorMoving_securing (s := { s with door := s.door.reread }) h]

theorem doorSettled_opened {s : State} (h : securingOrSecured s = false) (hr : s.door.raw = true)
    (hd : s.door.state = false) : doorSettled s = postDoor
      { s with door := { raw := true, state := true, timer := none }, doorOpenMoving := decide (30 < s.vref) } := by
  have hread : s.door.reread = { raw := true, state := true, timer := none } := by
    unfold Debounced.reread; rw [hr]
  unfold doorSettled
  dsimp only
  rw [evalDoorMoving_outside (s := { s with door := s.door.reread }) h, h, hr, hd, hread]
  rfl

theorem doorSettled_closed {s : State} (h : securingOrSecured s = false) (hr : s.door.raw = false)
    (hd : s.door.state = true) : doorSettled s = releaseDoor
      { s with door := { raw := false, state := false, timer := none }, doorOpenMoving := false } := by
  have hread : s.door.reread = { raw := false, state := false, timer := none } := by
    unfold Debounced.reread; rw [hr]
  unfold doorSettled
  dsimp only
  rw [evalDoorMoving_outside (s := { s with door := s.door.reread }) h, h, hr, hd, hread]
  rfl

theorem postDoor_vacant {s : State} (h : s.table[(1 : Slot)] = none) :
    postDoor s = { s with table := put s.table 1 (some (doorEntry s.settings.params s.clock.ms)) } := by
  unfold postDoor
  rw [homePost_vacant _ _ _ h]
  rfl

theorem postDoor_standing {s : State} {e : Entry} (h : s.table[(1 : Slot)] = some e) :
    postDoor s = { s with table := put s.table 1 (some
      (e.renew (doorFields s.settings.params.doorHold s.settings.params.holdMax) s.clock.ms)) } := by
  unfold postDoor
  rw [homePost_standing _ _ _ h]

theorem releaseDoor_active {s : State} {e : Entry} (h : s.table[(1 : Slot)] = some e) (hc : e.cls = .hold)
    (hs : e.state = .active) :
    releaseDoor s = { s with table := put s.table 1 (some { e with state := .retiring, deadline := none }) } := by
  unfold releaseDoor
  rw [homeRelease_retire h (by rw [hs]; decide), Entry.retire_other (by rw [hc]; decide)]

/-! ### The park switch -/

theorem switchSettled_securing {s : State} (h : securingOrSecured s = true) :
    switchSettled s = { s with parkSwitch := s.parkSwitch.reread } := by
  unfold switchSettled
  dsimp only
  rw [h, Bool.or_true, if_pos rfl]

theorem switchSettled_on {s : State} (h : securingOrSecured s = false) (hr : s.parkSwitch.raw = true)
    (hd : s.parkSwitch.state = false) :
    switchSettled s = postSwitch { s with parkSwitch := { raw := true, state := true, timer := none } } := by
  have hread : s.parkSwitch.reread = { raw := true, state := true, timer := none } := by
    unfold Debounced.reread; rw [hr]
  unfold switchSettled
  dsimp only
  rw [h, hr, hd, hread]
  rfl

theorem switchSettled_off {s : State} (h : securingOrSecured s = false) (hr : s.parkSwitch.raw = false)
    (hd : s.parkSwitch.state = true) :
    switchSettled s = releaseSwitch { s with parkSwitch := { raw := false, state := false, timer := none } } := by
  have hread : s.parkSwitch.reread = { raw := false, state := false, timer := none } := by
    unfold Debounced.reread; rw [hr]
  unfold switchSettled
  dsimp only
  rw [h, hr, hd, hread]
  rfl

theorem postSwitch_vacant {s : State} (h : s.table[(2 : Slot)] = none) :
    postSwitch s = putTable s (put s.table 2 (some (parkEntry 18))) := by
  unfold postSwitch
  rw [homePost_vacant _ _ _ h, newEntry_park]

theorem releaseSwitch_active {s : State} {e : Entry} (h : s.table[(2 : Slot)] = some e) (hc : e.cls = .park)
    (hs : e.state = .active) : releaseSwitch s = putTable s (put s.table 2 none) := by
  unfold releaseSwitch
  rw [homeRelease_retire h (by rw [hs]; decide), Entry.retire_park hc]

/-- Settles O33: the debounced state follows the line, and the source posts or releases its home slot. -/
theorem doorPostsHold : Obligations.DoorPostsHold := by
  unfold Obligations.DoorPostsHold
  refine ⟨fun x s ht hx hns hnsec => ?_, fun x s ht hx hns hnsec => ?_, fun x s hsec hx => ⟨fun ht => ?_, fun ht => ?_⟩⟩
  · have hout := not_securingOrSecured hns hnsec
    rw [exec_debounce_door ht hx]
    refine ⟨fun hr hd hslot => ?_, fun e hr hd hslot _ => ?_, fun e hr hd hslot hc hs => ?_⟩
    · exact congrArg _ ((doorSettled_opened hout hr hd).trans (postDoor_vacant hslot))
    · exact congrArg _ ((doorSettled_opened hout hr hd).trans (postDoor_standing hslot))
    · exact congrArg _ ((doorSettled_closed hout hr hd).trans (releaseDoor_active hslot hc hs))
  · have hout := not_securingOrSecured hns hnsec
    rw [exec_debounce_switch ht hx]
    refine ⟨fun hr hd hslot => ?_, fun e hr hd hslot hc hs => ?_⟩
    · have hpost := (switchSettled_on hout hr hd).trans (postSwitch_vacant hslot)
      have hafter : anyPark (put s.table 2 (some (parkEntry 18))) = true := anyPark_of_slot (put_slot_same _ 2 _) rfl
      rw [hpost]
      refine ⟨_, rfl, putTable_frame _ _, fun hpark => ?_, fun hpark => ?_⟩
      · rw [putTable_same]
        · exact ⟨rfl, rfl⟩
        · exact hafter.trans hpark.symm
      · rw [putTable_wanted]
        · exact ⟨rfl, fun h => Park.becomesWanted_applied _ h, fun h => Park.becomesWanted_starts _ h,
            fun h hstep => Park.becomesWanted_pending _ h hstep⟩
        · exact hafter
        · exact hpark
    · have hrelease := (switchSettled_off hout hr hd).trans (releaseSwitch_active hslot hc hs)
      have hbefore : anyPark s.table = true := anyPark_of_slot hslot hc
      rw [hrelease]
      refine ⟨_, rfl, putTable_frame _ _, fun hpark => ?_, fun hpark => ?_⟩
      · rw [putTable_same]
        · exact ⟨rfl, rfl⟩
        · exact hpark.trans hbefore.symm
      · rw [putTable_ceases _ _ hpark]
        · refine ⟨fun hna => ?_, fun ha hres hmode => ?_, fun ha hno => ?_⟩
          · rw [parkCeases_other]
            · exact ⟨rfl, rfl⟩
            · exact hna
          · rw [parkCeases_releases]
            · exact ⟨rfl, rfl⟩
            · exact ha
            · exact releaseConditions_of hpark hres hmode
          · rw [parkCeases_withholds]
            · exact ⟨rfl, rfl⟩
            · exact ha
            · exact releaseConditions_not hpark hno
        · exact hbefore
  · rw [exec_debounce_door ht hx, doorSettled_securing (securingOrSecured_of hsec)]; rfl
  · rw [exec_debounce_switch ht hx, switchSettled_securing (securingOrSecured_of hsec)]; rfl

end Sys2Proof.Machine
end

section
/-!
PROOFS. Securing, its return and wake: what each does to the coordinator's record, the table and the circuits, and the
obligations on the ignition line (R24, R26, R54, R62, R175, R182 to R185, R188).
-/

namespace Sys2Proof.Machine

open Sys2Proof.Safety

-- One theorem after another: elaborated all at once they need more thread stacks than the check's memory limit grants.
set_option Elab.async false

/-! ### Operations that find nothing to do -/

theorem endExercise_idle {s : State} (w : EndReason) (h : s.exercise.running = false) : endExercise s w = s := by
  unfold endExercise
  rw [h]
  rfl

theorem Coordinator.withheldSet_closed {k : Coordinator} (x : Nat) (h : k.watchOpen = false) : k.withheldSet x = k := by
  simp only [Coordinator.withheldSet, h, Bool.false_and, Bool.false_eq_true, if_false]
  rw [← h]

/-- RELEASE_WITHHELD under a closed watch without the conditions of R140 stays set, and nothing changes. -/
theorem reevaluateRelease_same {s : State} (hw : s.coord.watchOpen = false) (hc : releaseConditions s = false) :
    reevaluateRelease s = s := by
  unfold reevaluateRelease
  split
  · next hheld =>
    rcases evaluateRelease_cases s with ⟨-, h⟩ | ⟨-, h, -⟩ | ⟨-, -, h⟩
    · exact h
    · rw [hc] at h; cases h
    · have hpark : ({ s.park with withheld := true } : Park) = s.park := by rw [← hheld]
      rw [h, hpark, Coordinator.withheldSet_closed _ hw]
  · rfl

theorem releaseConditions_not_electronic {s : State} (h : s.circuit[(1 : CircuitId)].mode ≠ .electronic) :
    releaseConditions s = false := by
  have : rearElectronic s = false := decide_eq_false h
  rw [releaseConditions, this, Bool.and_false]

theorem coordinatorModes_secured {s : State} (b : Bool) (h : s.coord.state = .secured) : coordinatorModes s b = s := by
  have hcond : stopHoldConditions s = false := by simp [stopHoldConditions, h]
  unfold coordinatorModes evalStopHold
  simp [h, hcond]

/-! ### Both circuits go to RESTING in SECURED (R153, R184) -/

/-- The modes written, and the exercise ended where its circuit left ELECTRONIC (R86, R134, R148). -/
def modesWritten (s : State) (mode : CircuitId → Mode) : State :=
  if exerciseLeft s fun k => goesOut s.circuit[k].mode (mode k) then endExercise (writeModes s mode) .circuitFallback
  else writeModes s mode

theorem modesWritten_circuit (s : State) (mode : CircuitId → Mode) :
    (modesWritten s mode).circuit = (writeModes s mode).circuit := by
  unfold modesWritten; split <;> simp

theorem modesWritten_coord (s : State) (mode : CircuitId → Mode) : (modesWritten s mode).coord = s.coord := by
  unfold modesWritten; split <;> simp

theorem modesWritten_table (s : State) (mode : CircuitId → Mode) : (modesWritten s mode).table = s.table := by
  unfold modesWritten; split <;> simp

theorem modesWritten_park (s : State) (mode : CircuitId → Mode) : (modesWritten s mode).park = s.park := by
  unfold modesWritten; split <;> simp

theorem modesWritten_port {s : State} (mode : CircuitId → Mode) (h : s.exercise.running = false) :
    (modesWritten s mode).port = s.port := by
  unfold modesWritten
  split
  · rw [endExercise_idle _ (by rw [writeModes_exercise]; exact h), writeModes_port]
  · exact writeModes_port s mode

theorem writeModes_slot (s : State) (mode : CircuitId → Mode) (k : CircuitId) :
    (writeModes s mode).circuit[k] = { s.circuit[k] with mode := mode k } := mapAll_get _ _ k

/-- All that new modes do in SECURED with the watch closed and the rear circuit not ELECTRONIC: they are written. -/
theorem applyModes_secured {s : State} {mode : CircuitId → Mode} (hs : s.coord.state = .secured)
    (hw : s.coord.watchOpen = false) (hm : mode 1 ≠ .electronic) :
    applyModes s mode = s ∧ (∀ k, mode k = s.circuit[k].mode) ∨ applyModes s mode = modesWritten s mode := by
  have hsame : reevaluateRelease (modesWritten s mode) = modesWritten s mode :=
    reevaluateRelease_same (by rw [modesWritten_coord]; exact hw)
      (releaseConditions_not_electronic (by rw [modesWritten_circuit, writeModes_slot]; exact hm))
  have hstop (b : Bool) : coordinatorModes (modesWritten s mode) b = modesWritten s mode :=
    coordinatorModes_secured b (by rw [modesWritten_coord]; exact hs)
  by_cases hk : mode 0 = s.circuit[(0 : CircuitId)].mode ∧ mode 1 = s.circuit[(1 : CircuitId)].mode
  · refine .inl ⟨applyModes_same hk.1 hk.2, fun k => ?_⟩
    match k with
    | 0 => exact hk.1
    | 1 => exact hk.2
  · refine .inr ?_
    unfold applyModes
    dsimp only
    rw [if_neg]
    · change coordinatorModes (if _ then reevaluateRelease (modesWritten s mode) else modesWritten s mode) _ = _
      rw [hsame, ite_self, hstop]
    · intro hsame
      apply hk
      simp only [Bool.not_eq_true', Bool.or_eq_false_iff, bne_eq_false_iff_eq] at hsame
      exact ⟨hsame.1.symm, hsame.2.symm⟩

/-- The completion's change of modes leaves coordinator, table and park valve, and rests both circuits. -/
theorem applyModes_resting {s : State} (hs : s.coord.state = .secured) (hw : s.coord.watchOpen = false) :
    (applyModes s fun _ => .resting).coord = s.coord ∧ (applyModes s fun _ => .resting).table = s.table ∧
    (∀ k : CircuitId, (applyModes s fun _ => .resting).circuit[k] = { s.circuit[k] with mode := .resting }) ∧
    (s.exercise.running = false → (applyModes s fun _ => .resting).port = s.port) := by
  rcases applyModes_secured (mode := fun _ => .resting) hs hw (by decide) with ⟨h, hmode⟩ | h <;> rw [h]
  · refine ⟨rfl, rfl, fun k => ?_, fun _ => rfl⟩
    rw [hmode k]
  · exact ⟨modesWritten_coord _ _, modesWritten_table _ _,
      fun k => by rw [modesWritten_circuit, writeModes_slot], modesWritten_port _⟩

/-! ### Completion of securing (R184) -/

/-- The state as securing completes, before the circuits rest. -/
def securedBlocks (s : State) : State :=
  { setStandstill s .secured with
    coord := { (setStandstill s .secured).coord with rolling := Vector.replicate 6 [] }
    table := purge (setStandstill s .secured).table
    sampling := (setStandstill s .secured).sampling.enterWatch ((setStandstill s .secured).clock.us + msec 1000)
    trip := (setStandstill s .secured).trip.rest
    status := { (setStandstill s .secured).status with timer := (setStandstill s .secured).clock.us + msec 1000 } }

theorem completeSecuring_eq (s : State) : completeSecuring s = applyModes (securedBlocks s) fun _ => .resting := rfl

theorem setStandstill_securing {s : State} (st : Standstill) (h : s.coord.state = .securing) :
    setStandstill s st = { s with coord := s.coord.enter st } := by
  unfold setStandstill
  rw [h]
  rfl

/-- Completion from SECURING with the watch closed: the table is purged and both circuits rest (R184). -/
theorem completeSecuring_spec {s : State} (hs : s.coord.state = .securing) (hw : s.coord.watchOpen = false) :
    (completeSecuring s).coord = { s.coord.enter .secured with rolling := Vector.replicate 6 [] } ∧
    (completeSecuring s).table = purge s.table ∧
    (∀ k : CircuitId, (completeSecuring s).circuit[k] = { s.circuit[k] with mode := .resting }) ∧
    (s.exercise.running = false → (completeSecuring s).port = s.port) ∧
    (completeSecuring s).sampling = s.sampling.enterWatch (s.clock.us + msec 1000) ∧
    (completeSecuring s).trip = s.trip.rest ∧
    (completeSecuring s).status = { s.status with timer := s.clock.us + msec 1000 } := by
  have hb : securedBlocks s =
      { s with
        coord := { s.coord.enter .secured with rolling := Vector.replicate 6 [] }, table := purge s.table
        sampling := s.sampling.enterWatch (s.clock.us + msec 1000), trip := s.trip.rest
        status := { s.status with timer := s.clock.us + msec 1000 } } := by
    unfold securedBlocks
    rw [setStandstill_securing _ hs]
  have hwatch : (securedBlocks s).coord.watchOpen = false := by
    rw [hb]; simp [Coordinator.enter, hw]
  obtain ⟨hcoord, htable, hcircuit, hport⟩ := applyModes_resting (s := securedBlocks s) rfl hwatch
  rw [completeSecuring_eq]
  refine ⟨by rw [hcoord, hb], by rw [htable, hb], fun k => by rw [hcircuit, hb], fun h => ?_, ?_, ?_, ?_⟩
  · rw [hport (by rw [hb]; exact h), hb]
  · rw [applyModes_sampling, hb]
  · rw [applyModes_trip, hb]
  · rw [applyModes_status, hb]

/-! ### Entry to SECURING (R183) -/

theorem secure_closeWatch (k : Coordinator) : k.secure.closeWatch = k.secure := rfl

/-- The coordinator's record at entry to SECURING, field by field (R183). -/
theorem secure_eq (k : Coordinator) : k.secure =
    { k with state := .securing, settleTimer := none, settled := false, dwellTimer := none, quietTimer := none
             watchOpen := false, withheldTimer := none, ignitionOffPending := false } := rfl

/-- The state at entry to SECURING before slot 4 is looked at: an exercise ended, and slot 3 posted at hold_max. -/
def securingBlocks (s : State) : State :=
  postSlot3
    { (if s.coord.state = .autoPark then endExercise s .leftAutoPark else s) with
      coord := (if s.coord.state = .autoPark then endExercise s .leftAutoPark else s).coord.secure
      doorOpenMoving := false }
    s.settings.params.holdMax

theorem beginSecuring_eq (s : State) : beginSecuring s =
    if (securingBlocks s).table[(4 : Slot)].isNone then postSlot4 (securingBlocks s) else securingBlocks s := rfl

/-- The home entry of slot 3 after securing posts it (R183). -/
def securingTable (s : State) : Table :=
  homePost s.table 3 19
    (holdFields (clampTo s.settings.params.holdMax s.settings.params.holdMin s.settings.params.holdMax)) s.clock.ms

theorem securingBlocks_spec (s : State) :
    (securingBlocks s).coord = s.coord.secure ∧ (securingBlocks s).table = securingTable s ∧
      (securingBlocks s).park = s.park := by
  unfold securingBlocks postSlot3 securingTable
  dsimp only
  split <;> simp

theorem securingBlocks_idle {s : State} (h : s.exercise.running = false) :
    securingBlocks s =
      { s with coord := s.coord.secure, doorOpenMoving := false, table := securingTable s } := by
  unfold securingBlocks
  rw [endExercise_idle _ h, ite_self]
  rfl

theorem securingTable_other (s : State) {j : Slot} (h : j ≠ 3) : (securingTable s)[j] = s.table[j] :=
  homePost_other _ _ _ _ h

/-- With slot 4 standing, entry to SECURING posts slot 3 alone. -/
theorem beginSecuring_standing {s : State} (h : s.table[(4 : Slot)] ≠ none) : beginSecuring s = securingBlocks s := by
  rw [beginSecuring_eq, if_neg]
  rw [(securingBlocks_spec s).2.1, securingTable_other s (by decide), Option.isNone_iff_eq_none]
  exact h

/-- A new PARK entry in slot 4 leaves a closed watch, and a valve is APPLIED after it just where it was (R138, R179). -/
theorem postSlot4_vacant {s : State} (h : s.table[(4 : Slot)] = none) :
    ((postSlot4 s).coord = s.coord ∨ (postSlot4 s).coord = s.coord.closeWatch) ∧
      (s.park.state = .applied → (postSlot4 s).park.state = .applied) := by
  have hnew : anyPark (homePost s.table 4 19 parkFields s.clock.ms) = true := anyPark_homePost_park h
  unfold postSlot4
  cases hp : anyPark s.table with
  | true =>
    rw [putTable_same _ _ (hnew.trans hp.symm)]
    exact ⟨.inl rfl, id⟩
  | false =>
    rw [putTable_wanted _ _ hnew hp]
    refine ⟨.inr rfl, fun ha => ?_⟩
    show (s.park.becomesWanted s.clock.us).state = .applied
    rw [Park.becomesWanted_applied _ (.inl ha)]
    exact ha

/-- The coordinator's record and the park valve at entry to SECURING. -/
theorem beginSecuring_spec (s : State) :
    (beginSecuring s).coord = s.coord.secure ∧ (s.park.state = .applied → (beginSecuring s).park.state = .applied) := by
  obtain ⟨hcoord, -, hpark⟩ := securingBlocks_spec s
  rw [beginSecuring_eq]
  split
  · next hnone =>
    obtain ⟨hc, hp⟩ := postSlot4_vacant (Option.isNone_iff_eq_none.1 hnone)
    rw [hcoord] at hc
    rw [hpark] at hp
    exact ⟨hc.elim id (·.trans (secure_closeWatch _)), hp⟩
  · exact ⟨hcoord, fun ha => by rw [hpark]; exact ha⟩

theorem enterSecuring_applied {s : State} (h : s.park.state = .applied) :
    enterSecuring s = completeSecuring (beginSecuring s) := if_pos ((beginSecuring_spec s).2 h)

theorem enterSecuring_standing {s : State} (h4 : s.table[(4 : Slot)] ≠ none) (h : s.park.state ≠ .applied) :
    enterSecuring s = securingBlocks s := by
  unfold enterSecuring
  dsimp only
  rw [beginSecuring_standing h4, if_neg]
  rw [(securingBlocks_spec s).2.2]
  exact h

/-- The hold of slot 3 in SECURING: ACTIVE at hold_max over all channels, without gate or lifetime (R183). -/
theorem securingTable_slot3 {s : State} (h : s.settings.params.holdMin ≤ s.settings.params.holdMax) :
    ∃ e : Entry, (securingTable s)[(3 : Slot)] = some e ∧ e.state = .active ∧ e.scope = 0b111111#6 ∧
      e.value = some s.settings.params.holdMax ∧ e.gate = none ∧ e.lifetime = none ∧ e.policy = .rampOut := by
  have hclamp : clampTo s.settings.params.holdMax s.settings.params.holdMin s.settings.params.holdMax =
      s.settings.params.holdMax := by unfold clampTo; omega
  unfold securingTable
  rw [hclamp]
  cases hslot : s.table[(3 : Slot)] with
  | none => rw [homePost_vacant _ _ _ hslot]; exact ⟨_, put_slot_same _ _ _, rfl, rfl, rfl, rfl, rfl, rfl⟩
  | some e => rw [homePost_standing _ _ _ hslot]; exact ⟨_, put_slot_same _ _ _, rfl, rfl, rfl, rfl, rfl, rfl⟩

/-- The purge of the table with slot 3 posted leaves the PARK entries (R24, R183). -/
theorem purge_securingTable (s : State) :
    (∀ i : Slot, s.table[i] = none → (purge (securingTable s))[i] = none) ∧
    (∀ (i : Slot) (e : Entry), s.table[i] = some e → e.cls ≠ .park → (purge (securingTable s))[i] = none) ∧
    (∀ (i : Slot) (e : Entry), i ≠ 3 → s.table[i] = some e → e.cls = .park →
      (purge (securingTable s))[i] = some e) := by
  have hslot (i : Slot) (hi : i ≠ 3) : (purge (securingTable s))[i] = (purge s.table)[i] := by
    rw [purge_slot, purge_slot, securingTable_other s hi]
  refine ⟨fun i hn => ?_, fun i e he hc => ?_, fun i e hi he hc => ?_⟩
  · by_cases hi : i = 3
    · subst hi
      rw [purge_slot, securingTable, homePost_vacant _ _ _ hn, put_slot_same]
      rfl
    · rw [hslot i hi, purge_slot, hn]; rfl
  · by_cases hi : i = 3
    · subst hi
      rw [purge_slot, securingTable, homePost_standing _ _ _ he, put_slot_same]
      exact if_neg hc
    · rw [hslot i hi, purge_slot, he]; exact if_neg hc
  · rw [hslot i hi, purge_slot, he]; exact if_pos hc

/-! ### The ignition line (R182) -/

theorem exec_ignitionOff {s : State} (h : s.lines.ignition = true) :
    exec (.ignitionChange false) s = .next (ignitionOff { s with lines := { s.lines with ignition := false } }) := by
  show Host.Outcome.next _ = _
  rw [h]
  rfl

theorem exec_ignitionOn {s : State} (h : s.lines.ignition = false) :
    exec (.ignitionChange true) s = .next (ignitionOn { s with lines := { s.lines with ignition := true } }) := by
  show Host.Outcome.next _ = _
  rw [h]
  rfl

theorem ignitionOff_standstill {s : State} (h : securingOrSecured s = false) (hv : s.vref = 0) :
    ignitionOff s = enterSecuring s := by
  unfold ignitionOff
  rw [h, if_neg (by decide), if_pos hv]

theorem ignitionOff_rolling {s : State} (h : securingOrSecured s = false) (hv : 0 < s.vref) :
    ignitionOff s = deferSecuring s := by
  unfold ignitionOff
  rw [h, if_neg (by decide), if_neg (by omega)]

theorem ignitionOn_withdraws {s : State} (h1 : s.coord.state ≠ .securing) (h2 : s.coord.state ≠ .secured) :
    ignitionOn s = { s with coord := { s.coord with ignitionOffPending := false } } := by
  unfold ignitionOn
  cases hs : s.coord.state
  case securing => exact absurd hs h1
  case secured => exact absurd hs h2
  all_goals rfl

/-- Ignition off at standstill in AUTO_PARK, the springs not APPLIED: SECURING is entered. -/
theorem ignitionOff_enters {s : State} (hoff : s.lines.ignition = true) (hst : s.coord.state = .autoPark)
    (hidle : s.exercise.running = false) (hv : s.vref = 0) (h4 : s.table[(4 : Slot)] ≠ none)
    (hna : s.park.state ≠ .applied) : exec (.ignitionChange false) s =
      .next { s with lines := { s.lines with ignition := false }, coord := s.coord.secure, doorOpenMoving := false
                     table := securingTable s } := by
  have hout : securingOrSecured { s with lines := { s.lines with ignition := false } } = false :=
    not_securingOrSecured (by show s.coord.state ≠ _; rw [hst]; decide) (by show s.coord.state ≠ _; rw [hst]; decide)
  rw [exec_ignitionOff hoff, ignitionOff_standstill hout hv]
  exact congrArg _ ((enterSecuring_standing (s := { s with lines := { s.lines with ignition := false } }) h4 hna).trans
    (securingBlocks_idle hidle))

/-- Ignition off at standstill in AUTO_PARK, the springs APPLIED: securing completes at the same event. -/
theorem ignitionOff_completes {s : State} (hoff : s.lines.ignition = true) (hst : s.coord.state = .autoPark)
    (hidle : s.exercise.running = false) (hv : s.vref = 0) (h4 : s.table[(4 : Slot)] ≠ none)
    (ha : s.park.state = .applied) : exec (.ignitionChange false) s =
      .next (completeSecuring { s with lines := { s.lines with ignition := false }, coord := s.coord.secure
                                       doorOpenMoving := false, table := securingTable s }) := by
  have hout : securingOrSecured { s with lines := { s.lines with ignition := false } } = false :=
    not_securingOrSecured (by show s.coord.state ≠ _; rw [hst]; decide) (by show s.coord.state ≠ _; rw [hst]; decide)
  rw [exec_ignitionOff hoff, ignitionOff_standstill hout hv,
    enterSecuring_applied (s := { s with lines := { s.lines with ignition := false } }) ha,
    beginSecuring_standing (s := { s with lines := { s.lines with ignition := false } }) h4]
  rw [securingBlocks_idle (s := { s with lines := { s.lines with ignition := false } }) hidle]
  rfl

/-! ### The tooth timeout that brings v_ref to 0 (R94, R123, R182; log entry 13) -/

/-- The blocks that a change of v_ref to 0 reaches before the coordinator. -/
def stoppedBlocks (s : State) (c : Channel) : State :=
  slipSpeed (exerciseSpeed (evalOverride (evalDoorMoving { s with wheel := put s.wheel c s.wheel[c].timeout, vref := 0 })))
    s.vref

theorem referenceSpeed_zero {w : Vector Wheel 6} (h : ∀ c : Channel, w[c].suspect = false → w[c].speed = 0) :
    referenceSpeed w = 0 := by
  unfold referenceSpeed
  generalize List.finRange 6 = l
  induction l with
  | nil => rfl
  | cons c l ih =>
    rw [List.foldl_cons]
    split
    · exact ih
    · next hs => rw [h c (Bool.eq_false_iff.2 hs)]; exact ih

theorem exec_toothTimeout_due {s : State} {c : Channel} {x : Capture} (ht : s.wheel[c].toothTimer = some x)
    (hx : (s.clock.capture - x).toNat < 8388608) :
    exec (.toothTimeout c) s = .next (setWheel s c s.wheel[c].timeout) := by
  have hdue : s.wheel[c].toothDue s.clock.capture = true := by
    unfold Wheel.toothDue; rw [ht]; exact decide_eq_true hx
  show Host.Outcome.next _ = _
  rw [hdue, if_pos rfl]

/-- The last wheel stops with the ignition-off pending: SECURING is entered at that event. -/
theorem toothTimeout_secures {s : State} {c : Channel} {x : Capture} (hpend : s.coord.ignitionOffPending = true)
    (hv : 0 < s.vref) (ht : s.wheel[c].toothTimer = some x) (hx : (s.clock.capture - x).toNat < 8388608)
    (hothers : ∀ d : Channel, d ≠ c → s.wheel[d].suspect = false → s.wheel[d].speed = 0)
    (h1 : s.coord.state ≠ .securing) (h2 : s.coord.state ≠ .secured) :
    exec (.toothTimeout c) s = .next (evalSuspects (enterSecuring (stoppedBlocks s c))) := by
  have hzero : referenceSpeed (put s.wheel c s.wheel[c].timeout) = 0 := by
    refine referenceSpeed_zero fun d hd => ?_
    by_cases hdc : d = c
    · subst hdc
      rw [show (put s.wheel d s.wheel[d].timeout)[d] = s.wheel[d].timeout from put_same _ _ _]; rfl
    · have hput : (put s.wheel c s.wheel[c].timeout)[d] = s.wheel[d] := put_other _ _ _ _ (Ne.symm hdc)
      rw [hput] at hd ⊢
      exact hothers d hdc hd
  have hcoord : (stoppedBlocks s c).coord = s.coord := by simp [stoppedBlocks]
  have hvref : (stoppedBlocks s c).vref = 0 := by simp [stoppedBlocks]
  have hsecures : coordinatorSpeed (stoppedBlocks s c) s.vref = enterSecuring (stoppedBlocks s c) := by
    have hout : securingOrSecured (stoppedBlocks s c) = false :=
      not_securingOrSecured (by rw [hcoord]; exact h1) (by rw [hcoord]; exact h2)
    unfold coordinatorSpeed
    rw [if_pos]
    rw [hcoord, hvref, hout, hpend]
    rfl
  rw [exec_toothTimeout_due ht hx, ← hsecures]
  unfold setWheel setReference
  dsimp only
  rw [hzero, if_neg (by omega)]
  rfl

theorem stoppedBlocks_spec (s : State) (c : Channel) :
    (stoppedBlocks s c).coord = s.coord ∧ (stoppedBlocks s c).table = s.table ∧ (stoppedBlocks s c).park = s.park ∧
      (stoppedBlocks s c).settings = s.settings ∧ (stoppedBlocks s c).lines = s.lines ∧ (stoppedBlocks s c).vref = 0 := by
  simp [stoppedBlocks]

/-- Entry to SECURING, completed or not, discards the pending ignition-off and the coordinator's timers (R183, R184). -/
theorem enterSecuring_discards (s : State) :
    (enterSecuring s).coord.ignitionOffPending = false ∧ (enterSecuring s).coord.settleTimer = none ∧
      (enterSecuring s).coord.dwellTimer = none ∧ (enterSecuring s).coord.quietTimer = none := by
  obtain ⟨hcoord, -⟩ := beginSecuring_spec s
  unfold enterSecuring
  dsimp only
  split
  · obtain ⟨hdone, -⟩ := completeSecuring_spec (s := beginSecuring s) (by rw [hcoord]; rfl) (by rw [hcoord]; rfl)
    rw [hdone, hcoord]
    exact ⟨rfl, rfl, rfl, rfl⟩
  · rw [hcoord]; exact ⟨rfl, rfl, rfl, rfl⟩

/-- Entry to SECURING with the springs APPLIED ends in SECURED with PARK entries only (R24, R184). -/
theorem enterSecuring_completes {s : State} (h : s.park.state = .applied) :
    (enterSecuring s).coord.state = .secured ∧
      ∀ (i : Slot) (e : Entry), (enterSecuring s).table[i] = some e → e.cls = .park := by
  obtain ⟨hcoord, -⟩ := beginSecuring_spec s
  obtain ⟨hdone, htable, -⟩ := completeSecuring_spec (s := beginSecuring s) (by rw [hcoord]; rfl) (by rw [hcoord]; rfl)
  rw [enterSecuring_applied h, hdone, htable]
  exact ⟨rfl, fun i e he => purge_parksOnly _ i e he⟩

/-- Settles O35: entry, completion, the pending ignition-off, and the tooth timeout that ends it. -/
theorem ignitionOffSecures : Obligations.IgnitionOffSecures := by
  unfold Obligations.IgnitionOffSecures
  refine ⟨fun s hoff hst hidle hv h4 => ⟨fun hord hna => ?_, fun ha => ?_⟩,
    fun s h1 h2 => ⟨fun hon hv => ?_, fun hoff => ?_,
    fun c x hpend hv ht hx hothers => ?_⟩⟩
  · obtain ⟨e, he, hstate, hscope, hvalue, hgate, hlife, hpolicy⟩ := securingTable_slot3 hord
    exact ⟨_, e, ignitionOff_enters hoff hst hidle hv h4 hna, rfl, secure_eq _, fun j hj => securingTable_other s hj, he,
      hstate, hscope, hvalue, hgate, hlife, hpolicy⟩
  · obtain ⟨hvacant, hother, hparks⟩ := purge_securingTable s
    obtain ⟨hcoord, htable, hcircuit, hport, hsampling, htrip, hstatus⟩ := completeSecuring_spec
      (s := { s with lines := { s.lines with ignition := false }, coord := s.coord.secure
                     doorOpenMoving := false, table := securingTable s }) rfl rfl
    refine ⟨_, ignitionOff_completes hoff hst hidle hv h4 ha, by simp, hcoord, ?_, ?_, ?_, hcircuit, ?_, ?_, ?_, ?_, htrip,
      hstatus, by simp, by simp, hport hidle, by simp, by simp, by simp, by simp⟩
    · rw [htable]; exact hvacant
    · rw [htable]; exact hother
    · rw [htable]; exact hparks
    all_goals rw [hsampling]; rfl
  · have hout : securingOrSecured { s with lines := { s.lines with ignition := false } } = false :=
      not_securingOrSecured h1 h2
    rw [exec_ignitionOff hon, ignitionOff_rolling hout hv]
    rfl
  · rw [exec_ignitionOn hoff]
    exact congrArg _ (ignitionOn_withdraws h1 h2)
  · obtain ⟨hcoord, htable, hpark, hsettings, hlines, hvref⟩ := stoppedBlocks_spec s c
    refine ⟨_, toothTimeout_secures hpend hv ht hx hothers h1 h2, ?_⟩
    obtain ⟨hp, hst, hdw, hq⟩ := enterSecuring_discards (stoppedBlocks s c)
    have hstays := evalSuspects_table (enterSecuring (stoppedBlocks s c))
    rw [evalSuspects_vref, evalSuspects_lines, evalSuspects_coord, evalSuspects_park]
    refine ⟨by rw [enterSecuring_vref, hvref], by rw [enterSecuring_lines, hlines], hp, hst, hdw, hq,
      fun ha => ?_, fun hord hna h4 => ?_⟩
    · obtain ⟨hsecured, hparks⟩ := enterSecuring_completes (s := stoppedBlocks s c) (by rw [hpark]; exact ha)
      exact ⟨hsecured, fun i e he => hparks i e (by rw [← he, hstays])⟩
    · rw [enterSecuring_standing (by rw [htable]; exact h4) (by rw [hpark]; exact hna)] at hstays ⊢
      obtain ⟨hc, ht3, hp3⟩ := securingBlocks_spec (stoppedBlocks s c)
      obtain ⟨e, he, hstate, hscope, hvalue, hgate, -, -⟩ :=
        securingTable_slot3 (s := stoppedBlocks s c) (by rw [hsettings]; exact hord)
      rw [hc, hp3]
      refine ⟨rfl, hpark, fun i hi => ?_, e, by rw [hstays, ht3]; exact he, hstate, ?_, hscope, hgate⟩
      · rw [hstays, ht3, securingTable_other _ hi, htable]
      · rw [hvalue, hsettings]

end Sys2Proof.Machine
end

section
/-!
PROOFS. The ignition going on: wake of a SECURED module and the return from SECURING, and the obligation on both
(R26, R54, R62, R125, R150, R166, R168, R175, R185, R188, R194).
-/

namespace Sys2Proof.Machine

open Sys2Proof.Safety

-- One theorem after another: elaborated all at once they need more thread stacks than the check's memory limit grants.
set_option Elab.async false

/-! ### Slot 3 handed over to the springs (R175) -/

theorem slotIs_some {t : Table} {i : Slot} {e : Entry} (st : EntryState) (h : t[i] = some e) :
    slotIs t i st = decide (e.state = st) := by
  unfold slotIs; rw [h]

theorem slotIs_none {t : Table} {i : Slot} (st : EntryState) (h : t[i] = none) : slotIs t i st = false := by
  unfold slotIs; rw [h]

/-- The table once slot 3 is handed over to a valve that stands APPLIED (R175). -/
def handedOver (t : Table) (applied : Bool) : Table := if applied && slotIs t 3 .active then homeRelease t 3 else t

theorem handover_eq {s : State} (h : s.coord.state = .autoPark) :
    handover s = { s with table := handedOver s.table (decide (s.park.state = .applied)) } := by
  unfold handover releaseSlot3 handedOver
  rw [h]
  by_cases ha : s.park.state = .applied <;> simp [ha]

theorem handedOver_other (t : Table) (b : Bool) {j : Slot} (h : j ≠ 3) : (handedOver t b)[j] = t[j] := by
  unfold handedOver
  split
  · exact homeRelease_other t h
  · rfl

theorem handedOver_not (t : Table) : handedOver t false = t := rfl

theorem handedOver_vacant {t : Table} (b : Bool) (h : t[(3 : Slot)] = none) : handedOver t b = t := by
  unfold handedOver
  rw [slotIs_none _ h, Bool.and_false]
  rfl

theorem handedOver_active {t : Table} {e : Entry} (h : t[(3 : Slot)] = some e) (hc : e.cls = .hold)
    (hs : e.state = .active) : (handedOver t true)[(3 : Slot)] = some { e with state := .retiring, deadline := none } := by
  unfold handedOver
  rw [slotIs_some _ h, hs, decide_eq_true rfl, Bool.and_self, if_pos rfl, homeRelease_retire h (by rw [hs]; decide),
    put_slot_same, Entry.retire_other (by rw [hc]; decide)]

/-! ### The cab sources take up their lines (R54) -/

/-- The table once slot 1 matches the door. -/
def doorMatched (s : State) : Table :=
  if s.door.state then
    if s.table[(1 : Slot)].isNone || slotIs s.table 1 .retiring then
      homePost s.table 1 17 (doorFields s.settings.params.doorHold s.settings.params.holdMax) s.clock.ms
    else s.table
  else if slotIs s.table 1 .active then homeRelease s.table 1
  else s.table

theorem table_ite (s : State) (b : Bool) (t u : Table) :
    (if b then { s with table := t } else { s with table := u }) = { s with table := if b then t else u } := by
  split <;> rfl

theorem matchDoor_eq (s : State) : matchDoor s = { s with table := doorMatched s } := by
  unfold matchDoor doorMatched
  split
  · exact table_ite s _ _ _
  · exact table_ite s _ _ _

theorem doorMatched_other (s : State) {j : Slot} (h : j ≠ 1) : (doorMatched s)[j] = s.table[j] := by
  unfold doorMatched
  split
  · split
    · exact homePost_other _ _ _ _ h
    · rfl
  · split
    · exact homeRelease_other _ h
    · rfl

theorem doorMatched_open_vacant {s : State} (hd : s.door.state = true) (h : s.table[(1 : Slot)] = none) :
    (doorMatched s)[(1 : Slot)] = some (newEntry 17 (doorFields s.settings.params.doorHold s.settings.params.holdMax)
      s.clock.ms) := by
  unfold doorMatched
  rw [if_pos hd, h, Option.isNone_none, Bool.true_or, if_pos rfl, homePost_vacant _ _ _ h, put_slot_same]

theorem doorMatched_open_retiring {s : State} {e : Entry} (hd : s.door.state = true) (h : s.table[(1 : Slot)] = some e)
    (hs : e.state = .retiring) : (doorMatched s)[(1 : Slot)] =
      some (e.renew (doorFields s.settings.params.doorHold s.settings.params.holdMax) s.clock.ms) := by
  unfold doorMatched
  rw [if_pos hd, slotIs_some _ h, decide_eq_true hs, Bool.or_true, if_pos rfl, homePost_standing _ _ _ h, put_slot_same]

theorem doorMatched_open_active {s : State} {e : Entry} (hd : s.door.state = true) (h : s.table[(1 : Slot)] = some e)
    (hs : e.state = .active) : doorMatched s = s.table := by
  unfold doorMatched
  rw [if_pos hd, slotIs_some _ h, h, hs]
  rfl

theorem doorMatched_closed_active {s : State} {e : Entry} (hd : s.door.state = false) (h : s.table[(1 : Slot)] = some e)
    (hs : e.state = .active) (hc : e.cls = .hold) :
    (doorMatched s)[(1 : Slot)] = some { e with state := .retiring, deadline := none } := by
  unfold doorMatched
  rw [if_neg (by rw [hd]; decide), slotIs_some _ h, if_pos (decide_eq_true hs),
    homeRelease_retire h (by rw [hs]; decide), put_slot_same, Entry.retire_other (by rw [hc]; decide)]

theorem doorMatched_closed_inactive {s : State} (hd : s.door.state = false) (h : slotIs s.table 1 .active = false) :
    doorMatched s = s.table := by
  unfold doorMatched
  rw [if_neg (by rw [hd]; decide), h]
  rfl

/-- The table once slot 2 matches the park switch. -/
def switchMatched (t : Table) (on : Bool) (now : Ms) : Table :=
  if on then if t[(2 : Slot)].isNone then homePost t 2 18 parkFields now else t
  else if t[(2 : Slot)].isSome then homeRelease t 2
  else t

theorem switchMatched_other (t : Table) (on : Bool) (now : Ms) {j : Slot} (h : j ≠ 2) :
    (switchMatched t on now)[j] = t[j] := by
  unfold switchMatched
  split
  · split
    · exact homePost_other _ _ _ _ h
    · rfl
  · split
    · exact homeRelease_other _ h
    · rfl

theorem switchMatched_on_vacant {t : Table} (now : Ms) (h : t[(2 : Slot)] = none) :
    (switchMatched t true now)[(2 : Slot)] = some (parkEntry 18) := by
  unfold switchMatched
  rw [if_pos rfl, h, Option.isNone_none, if_pos rfl, homePost_vacant _ _ _ h, put_slot_same, newEntry_park]

theorem switchMatched_off_vacant {t : Table} (now : Ms) (h : t[(2 : Slot)] = none) : switchMatched t false now = t := by
  unfold switchMatched
  rw [h]
  rfl

theorem switchMatched_standing {t : Table} {e : Entry} (on : Bool) (now : Ms) (h : t[(2 : Slot)] = some e)
    (hc : e.cls = .park) (hs : e.state = .active) :
    (switchMatched t on now)[(2 : Slot)] = if on = true then some e else none := by
  unfold switchMatched
  cases on
  · rw [h, homeRelease_retire h (by rw [hs]; decide), Entry.retire_park hc]
    exact put_slot_same _ _ _
  · rw [h]; exact h

/-- While another PARK entry stands, matching slot 2 to the switch does not concern the park valve (R19). -/
theorem matchSwitch_eq {s : State} {e : Entry} (h : s.table[(4 : Slot)] = some e) (hc : e.cls = .park) :
    matchSwitch s = { s with table := switchMatched s.table s.parkSwitch.state s.clock.ms } := by
  have hpark : anyPark s.table = true := anyPark_of_slot h hc
  have hkept (t : Table) (ht : t[(4 : Slot)] = s.table[(4 : Slot)]) : putTable s t = { s with table := t } :=
    putTable_same _ _ ((anyPark_of_slot (ht.trans h) hc).trans hpark.symm)
  have hpost : postSwitch s = { s with table := homePost s.table 2 18 parkFields s.clock.ms } :=
    hkept _ (homePost_other _ _ _ _ (by decide))
  have hrelease : releaseSwitch s = { s with table := homeRelease s.table 2 } :=
    hkept _ (homeRelease_other _ (by decide))
  unfold matchSwitch switchMatched
  rw [hpost, hrelease]
  split
  · exact table_ite s _ _ _
  · exact table_ite s _ _ _

/-! ### The return from SECURING (R185) -/

/-- The table at the return: slots 1 and 2 match their lines, slot 3 is handed over to a valve that stands APPLIED. -/
def returnTable (s : State) : Table :=
  handedOver (switchMatched (doorMatched s) s.parkSwitch.state s.clock.ms) (decide (s.park.state = .applied))

/-- The coordinator's record at the return, field by field. -/
def returnCoordinator (k : Coordinator) (expiry vref : Nat) : Coordinator :=
  { k with
    state := .autoPark, settleTimer := none, settled := false, dwellTimer := none, quietTimer := some expiry
    armed := decide (vref = 0), edges := Vector.replicate 6 0 }

theorem Coordinator.enter_window_return {k : Coordinator} (expiry vref : Nat) (h : k.state = .securing) :
    (k.enter .autoPark).window expiry vref = returnCoordinator k expiry vref := by
  simp [Coordinator.enter, Coordinator.window, returnCoordinator, h]

theorem returnFromSecuring_eq {s : State} {e : Entry} (hs : s.coord.state = .securing) (h : s.table[(4 : Slot)] = some e)
    (hc : e.cls = .park) : returnFromSecuring s =
      { s with
        coord := returnCoordinator s.coord (s.clock.us + sec s.settings.params.quietWindow) s.vref
        table := returnTable s
        doorOpenMoving := s.door.state && decide (30 < s.vref) } := by
  have hmatch := matchSwitch_eq
    (s := { s with coord := s.coord.enter .autoPark, table := doorMatched s })
    ((doorMatched_other s (by decide)).trans h) hc
  have hout : securingOrSecured { s with coord := s.coord.enter .autoPark } = false :=
    not_securingOrSecured (by show Standstill.autoPark ≠ _; decide) (by show Standstill.autoPark ≠ _; decide)
  unfold returnFromSecuring
  rw [setStandstill_securing _ hs, matchDoor_eq]
  change handover (startWindow (evalDoorMoving (matchSwitch
    { s with coord := s.coord.enter .autoPark, table := doorMatched s }))) = _
  rw [hmatch, evalDoorMoving_outside (by exact hout), handover_eq (by rfl)]
  rw [← Coordinator.enter_window_return _ _ hs]
  rfl

/-! ### Wake (R26, R188) -/

/-- With the watch closed and the conditions of R140 unmet, no new table changes the coordinator's record. -/
theorem putTable_coord_closed {s : State} (t : Table) (hw : s.coord.watchOpen = false)
    (hh : s.coord.withheldTimer = none) (hm : s.circuit[(1 : CircuitId)].mode ≠ .electronic) :
    (putTable s t).coord = s.coord := by
  unfold putTable
  dsimp only
  split
  · show s.coord.closeWatch = s.coord
    unfold Coordinator.closeWatch
    rw [← hw, ← hh]
  · split
    · unfold parkCeases
      dsimp only
      split
      · rcases evaluateRelease_cases { s with table := t, park := { s.park with wanted := false } } with
          ⟨-, h⟩ | ⟨-, h, -⟩ | ⟨-, -, h⟩
        · rw [h]
        · exact absurd (h.symm.trans (releaseConditions_not_electronic hm)) (by decide)
        · rw [h]; exact Coordinator.withheldSet_closed _ hw
      · rfl
    · rfl

/-- The table at wake of the state with the ignition on. -/
def wokenTable (s : State) : Table :=
  wakeTable s.table s.settings.params s.door.raw s.parkSwitch.raw s.clock.ms

theorem wokenTable_kept (s : State) {j : Slot} (h : 3 ≤ j.val) : (wokenTable s)[j] = s.table[j] := by
  have hne (i : Slot) (hi : i.val < 3) : j ≠ i := fun he => by subst he; omega
  unfold wokenTable wakeTable
  rw [put_slot_other _ _ (hne 2 (by decide)), put_slot_other _ _ (hne 1 (by decide)),
    put_slot_other _ _ (hne 0 (by decide))]

theorem wokenTable_pedal (s : State) : (wokenTable s)[(0 : Slot)] = some pedalEntry := by
  unfold wokenTable wakeTable
  rw [put_slot_other _ _ (by decide), put_slot_other _ _ (by decide), put_slot_same]

theorem wakeBlocks_circuit (s : State) (k : CircuitId) : (wakeBlocks s).circuit[k] = freshCircuit s.trip.tripped := by
  simp [wakeBlocks]

theorem wakeBlocks_rear (s : State) : (wakeBlocks s).circuit[(1 : CircuitId)].mode ≠ .electronic := by
  rw [wakeBlocks_circuit]; show Mode.fallback ≠ _; decide

/-- Wake, its table written out; a SECURED table has slot 3 vacant (R24), so nothing is handed over. -/
theorem wake_eq {s : State} (h : s.table[(3 : Slot)] = none) :
    wake s = startWindow (evalDoorMoving (putTable (wakeBlocks s) (wokenTable s))) := by
  have hsame : reevaluateRelease (wakeBlocks s) = wakeBlocks s :=
    reevaluateRelease_same rfl (releaseConditions_not_electronic (wakeBlocks_rear s))
  have hcoord : (putTable (wakeBlocks s) (wokenTable s)).coord = s.coord.wake :=
    putTable_coord_closed _ rfl rfl (wakeBlocks_rear s)
  have hslot : (startWindow (evalDoorMoving (putTable (wakeBlocks s) (wokenTable s)))).table[(3 : Slot)] = none := by
    have htable : (startWindow (evalDoorMoving (putTable (wakeBlocks s) (wokenTable s)))).table = wokenTable s := by simp
    rw [htable, wokenTable_kept s (by decide), h]
  unfold wake
  dsimp only
  rw [hsame]
  change handover (startWindow (evalDoorMoving (putTable (wakeBlocks s) (wokenTable s)))) = _
  rw [handover_eq, handedOver_vacant _ hslot]
  show (putTable (wakeBlocks s) (wokenTable s)).coord.state = .autoPark
  rw [hcoord]
  rfl

/-- The ignition going on in SECURED, as a state. -/
theorem exec_ignitionOn_wakes {s : State} (hoff : s.lines.ignition = false) (hst : s.coord.state = .secured)
    (h3 : s.table[(3 : Slot)] = none) : exec (.ignitionChange true) s =
      .next (startWindow (evalDoorMoving (putTable (wakeBlocks { s with lines := { s.lines with ignition := true } })
        (wokenTable s)))) := by
  rw [exec_ignitionOn hoff]
  refine congrArg _ (Eq.trans ?_ (wake_eq (s := { s with lines := { s.lines with ignition := true } }) h3))
  unfold ignitionOn
  rw [show ({ s with lines := { s.lines with ignition := true } } : State).coord.state = .secured from hst]

theorem exec_ignitionOn_returns {s : State} {e : Entry} (hoff : s.lines.ignition = false)
    (hst : s.coord.state = .securing) (h : s.table[(4 : Slot)] = some e) (hc : e.cls = .park) :
    exec (.ignitionChange true) s =
      .next { s with lines := { s.lines with ignition := true }
                     coord := returnCoordinator s.coord (s.clock.us + sec s.settings.params.quietWindow) s.vref
                     table := returnTable s
                     doorOpenMoving := s.door.state && decide (30 < s.vref) } := by
  rw [exec_ignitionOn hoff]
  refine congrArg _ (Eq.trans ?_ (returnFromSecuring_eq (s := { s with lines := { s.lines with ignition := true } })
    hst h hc))
  unfold ignitionOn
  rw [show ({ s with lines := { s.lines with ignition := true } } : State).coord.state = .securing from hst]

theorem returnTable_other (s : State) {j : Slot} (h1 : j ≠ 1) (h2 : j ≠ 2) (h3 : j ≠ 3) :
    (returnTable s)[j] = s.table[j] :=
  (handedOver_other _ _ h3).trans ((switchMatched_other _ _ _ h2).trans (doorMatched_other s h1))

theorem returnTable_slot1 (s : State) : (returnTable s)[(1 : Slot)] = (doorMatched s)[(1 : Slot)] :=
  (handedOver_other _ _ (by decide)).trans (switchMatched_other _ _ _ (by decide))

theorem returnTable_slot2 (s : State) :
    (returnTable s)[(2 : Slot)] = (switchMatched (doorMatched s) s.parkSwitch.state s.clock.ms)[(2 : Slot)] :=
  handedOver_other _ _ (by decide)

/-- The table on which slot 3 is handed over at the return holds the slot 3 of SECURING. -/
theorem returned_slot3 (s : State) :
    (switchMatched (doorMatched s) s.parkSwitch.state s.clock.ms)[(3 : Slot)] = s.table[(3 : Slot)] :=
  (switchMatched_other _ _ _ (by decide)).trans (doorMatched_other s (by decide))

theorem returnTable_slot3_kept {s : State} (h : s.park.state ≠ .applied) :
    (returnTable s)[(3 : Slot)] = s.table[(3 : Slot)] := by
  unfold returnTable
  rw [decide_eq_false h, handedOver_not, returned_slot3]

theorem returnTable_slot3_retires {s : State} {e : Entry} (ha : s.park.state = .applied)
    (h : s.table[(3 : Slot)] = some e) (hc : e.cls = .hold) (hs : e.state = .active) :
    (returnTable s)[(3 : Slot)] = some { e with state := .retiring, deadline := none } := by
  unfold returnTable
  rw [decide_eq_true ha]
  exact handedOver_active ((returned_slot3 s).trans h) hc hs

/-- Settles O36: wake from SECURED, and the return from SECURING. -/
theorem wakeReturns : Obligations.WakeReturns := by
  unfold Obligations.WakeReturns
  refine ⟨fun s hoff hst h3 => ?_, fun e s hoff hst h4 hc => ?_⟩
  · have hcoord : (putTable (wakeBlocks { s with lines := { s.lines with ignition := true } }) (wokenTable s)).coord =
        s.coord.wake := putTable_coord_closed _ rfl rfl (wakeBlocks_rear _)
    obtain ⟨p, hput⟩ : ∃ p, putTable (wakeBlocks { s with lines := { s.lines with ignition := true } }) (wokenTable s) =
        { wakeBlocks { s with lines := { s.lines with ignition := true } } with
          table := wokenTable s, park := p, coord := s.coord.wake } :=
      ⟨_, (putTable_frame _ _).trans (by rw [hcoord])⟩
    rw [exec_ignitionOn_wakes hoff hst h3, hput]
    exact ⟨_, rfl, rfl, rfl, rfl, rfl, wokenTable_pedal s, fun j => wokenTable_kept s, wakeBlocks_circuit _, rfl, rfl, rfl,
      rfl, rfl, rfl, rfl, rfl, rfl, rfl, rfl, rfl, rfl, rfl, rfl, rfl, rfl, rfl, rfl, rfl⟩
  · refine ⟨_, exec_ignitionOn_returns hoff hst h4 hc, rfl, rfl, fun j => returnTable_other s, returnTable_slot3_kept,
      fun h => returnTable_slot3_retires, fun hd h1 => ?_, fun d h1 => ⟨fun hd hs => ?_, fun hd hs => ?_, fun hd hs hcls => ?_,
      fun hd hs => ?_⟩, fun hd h1 => ?_, fun hp h2 => ?_, fun d h2 hcls hs => ?_, fun hp h2 => ?_⟩
    · exact (returnTable_slot1 s).trans (doorMatched_open_vacant hd h1)
    · exact (returnTable_slot1 s).trans (doorMatched_open_retiring hd h1 hs)
    · exact (returnTable_slot1 s).trans ((congrArg (·[(1 : Slot)]) (doorMatched_open_active hd h1 hs)).trans h1)
    · exact (returnTable_slot1 s).trans (doorMatched_closed_active hd h1 hs hcls)
    · have hinactive : slotIs s.table 1 .active = false := by rw [slotIs_some _ h1, hs]; rfl
      exact (returnTable_slot1 s).trans ((congrArg (·[(1 : Slot)]) (doorMatched_closed_inactive hd hinactive)).trans h1)
    · have hinactive : slotIs s.table 1 .active = false := slotIs_none _ h1
      exact (returnTable_slot1 s).trans ((congrArg (·[(1 : Slot)]) (doorMatched_closed_inactive hd hinactive)).trans h1)
    all_goals have hslot := doorMatched_other s (j := 2) (by decide)
    · have hon := switchMatched_on_vacant s.clock.ms (hslot.trans h2)
      rw [← hp] at hon
      exact (returnTable_slot2 s).trans hon
    · exact (returnTable_slot2 s).trans (switchMatched_standing _ _ (hslot.trans h2) hcls hs)
    · have hoff2 := switchMatched_off_vacant s.clock.ms (hslot.trans h2)
      rw [← hp] at hoff2
      exact (returnTable_slot2 s).trans ((congrArg (·[(2 : Slot)]) hoff2).trans (hslot.trans h2))

end Sys2Proof.Machine
end

section
/-!
PROOFS. Cold start: the home entries and the apply attempt, CUT_LINE read as it stands, SECURING with the ignition off, and
the obligation on all of them (R25, R157, R183, R189, R200).
-/

namespace Sys2Proof.Machine

open Sys2Proof.Safety

-- One theorem after another: elaborated all at once they need more thread stacks than the check's memory limit grants.
set_option Elab.async false

/-! ### The home entries (R25, R189) -/

/-- A first table without slot 4 and then the post of slot 4: park becomes wanted once, whichever of the two brings the
first PARK entry (R19, R138). -/
theorem postSlot4_putTable {s : State} {t : Table} (h : anyPark s.table = false) (h4 : t[(4 : Slot)] = none) :
    postSlot4 (putTable s t) =
      { s with table := put t 4 (some (parkEntry 19)), park := s.park.becomesWanted s.clock.us
               coord := s.coord.closeWatch } := by
  have hpost (now : Ms) : homePost t 4 19 parkFields now = put t 4 (some (parkEntry 19)) := by
    rw [homePost_vacant _ _ _ h4, newEntry_park]
  have hparks : anyPark (put t 4 (some (parkEntry 19))) = true := anyPark_of_slot (put_slot_same _ _ _) rfl
  unfold postSlot4
  cases ht : anyPark t with
  | true =>
    rw [putTable_wanted s t ht h]
    change putTable _ (homePost t 4 19 parkFields s.clock.ms) = _
    rw [hpost, putTable_same _ _ (hparks.trans ht.symm)]
    rfl
  | false =>
    rw [putTable_same s t (ht.trans h.symm)]
    change putTable _ (homePost t 4 19 parkFields s.clock.ms) = _
    rw [hpost, putTable_wanted _ _ hparks ht]
    rfl

theorem coldTable_other (p : Params) (door switch : Bool) (now : Ms) {i : Slot} (h : 3 ≤ i.val) :
    (coldTable p door switch now)[i] = none := by
  have hne (j : Slot) (hj : j.val < 3) : i ≠ j := fun he => by subst he; omega
  unfold coldTable
  rw [put_slot_other _ _ (hne 2 (by decide)), put_slot_other _ _ (hne 1 (by decide)),
    put_slot_other _ _ (hne 0 (by decide))]
  exact Vector.getElem_replicate _

theorem anyPark_empty : anyPark (Vector.replicate 32 none) = false := by
  refine Bool.eq_false_iff.2 fun h => ?_
  obtain ⟨i, e, he, -⟩ := (anyPark_iff _).1 h
  rw [show (Vector.replicate 32 none : Table)[i] = none from Vector.getElem_replicate _] at he
  cases he

/-- The table at a cold start (R25, R189). -/
def startTable (s : State) : Table :=
  put (coldTable (loadSettings s.settings.image).params s.door.raw s.parkSwitch.raw (Config.coldMs s.draws)) 4
    (some (parkEntry 19))

/-- The park valve at a cold start, its first apply pulse begun (R138, R189). -/
def applyingPark (now : Nat) : Park :=
  { state := .applying, step := some .pulse, pulseTimer := some (now + 150000), confirmTimer := none, pulses := 1,
    wanted := true, applyPending := false, retryTimer := none, fault := false, withheld := false }

/-- The state at a cold start, its home entries posted. -/
def startedBlocks (s : State) : State :=
  { coldBlocks s with
    table := startTable s
    park := applyingPark s.clock.us
    coord := coldCoordinator.window (s.clock.us + sec (loadSettings s.settings.image).params.quietWindow) 0 }

theorem coldEntries_eq (s : State) : coldEntries (coldBlocks s) = startedBlocks s := by
  unfold coldEntries
  rw [postSlot4_putTable (by exact anyPark_empty) (coldTable_other _ _ _ _ (by decide))]
  rfl

/-! ### CUT_LINE read as it stands (R157, R161) -/

/-- The trip unit at a cold start, CUT_LINE as the line stands. -/
def startTrip (s : State) : TripUnit :=
  { tripped := s.lines.cutOut
    latched := { cutLine := s.lines.cutOut, undervolt := false, overpressure := false, scanStall := false }
    active := { cutLine := s.lines.cutOut, undervolt := false, overpressure := false, scanStall := false }
    undervoltRun := 0, overpressure := Vector.replicate 6 0, stallTimer := some (s.clock.us + 6000) }

theorem mapAll_replicate {α β : Type} {n : Nat} (a : α) (b : β) (f : Fin n → α → β) (h : ∀ i, f i a = b) :
    mapAll (Vector.replicate n a) f = Vector.replicate n b := by
  refine Vector.ext fun i hi => ?_
  have := mapAll_get (Vector.replicate n a) f ⟨i, hi⟩
  rw [Vector.getElem_replicate, h] at this
  rw [Vector.getElem_replicate]
  exact this

/-- A rise of trip sources out of the cold state: nothing is running that the trip could cut (R134, R161). -/
theorem rise_started {s : State} {r : TripSet} (hr : r.nonempty = true) (ht : s.trip.tripped = false)
    (hx : s.exercise.running = false) (hv : s.valve.chan = Vector.replicate 6 coldDrive)
    (hc : s.circuit = Vector.replicate 2 (freshCircuit false)) :
    rise s r = { s with trip := { s.trip with tripped := true, latched := s.trip.latched.either r }
                        circuit := Vector.replicate 2 (freshCircuit true) } := by
  have hcut : mapAll s.valve.chan (fun _ d => d.cut s.clock.us) = s.valve.chan := by
    rw [hv]; exact mapAll_replicate _ _ _ fun _ => rfl
  have htrip : addTrip s.circuit = Vector.replicate 2 (freshCircuit true) := by
    rw [hc]; exact mapAll_replicate _ _ _ fun _ => rfl
  have henter : rise s r = enterTrip s r := by unfold rise; rw [hr, ht]; rfl
  rw [henter]
  unfold enterTrip
  rw [endExercise_idle _ (by exact hx), hcut, htrip]

/-- CUT_LINE alone, as the line stands. -/
def cutLineSet (b : Bool) : TripSet := { TripSet.none with cutLine := b }

theorem setActive_started (s : State) :
    setActive (startedBlocks s) { (startedBlocks s).trip.active with cutLine := (startedBlocks s).lines.cutOut } =
      { startedBlocks s with trip := startTrip s, circuit := Vector.replicate 2 (freshCircuit s.lines.cutOut) } := by
  unfold setActive startTrip
  change rise { startedBlocks s with trip := { (startedBlocks s).trip with active := cutLineSet s.lines.cutOut } }
    (((cutLineSet s.lines.cutOut).minus TripSet.none).enabled (startedBlocks s).settings.params) = _
  cases s.lines.cutOut with
  | false =>
    rfl
  | true =>
    rw [rise_started rfl rfl rfl rfl rfl]
    rfl

/-- A cold start with the ignition on (R25, R189). -/
def startedState (s : State) : State :=
  { startedBlocks s with trip := startTrip s, circuit := Vector.replicate 2 (freshCircuit s.lines.cutOut) }

theorem coldStart_on {s : State} (h : s.lines.ignition = true) : coldStart s = startedState s := by
  unfold coldStart
  dsimp only
  rw [coldEntries_eq, setActive_started]
  exact if_pos h

/-- A cold start with the ignition off enters SECURING at that event; the valve is not yet APPLIED (R183, R189). -/
theorem coldStart_off {s : State} (h : s.lines.ignition = false) :
    coldStart s = { startedState s with coord := (startedState s).coord.secure, table := securingTable (startedState s) } := by
  have h4 : (startedState s).table[(4 : Slot)] ≠ none := by
    rw [show (startedState s).table[(4 : Slot)] = some (parkEntry 19) from put_slot_same _ _ _]
    exact Option.some_ne_none _
  have hpark : (startedState s).park.state ≠ .applied := by show ParkState.applying ≠ _; decide
  unfold coldStart
  dsimp only
  rw [coldEntries_eq, setActive_started]
  change (if s.lines.ignition = true then startedState s else enterSecuring (startedState s)) = _
  rw [h, if_neg (by decide), enterSecuring_standing h4 hpark, securingBlocks_idle rfl]
  rfl

/-! ### What is loaded (R29, R114, R200) -/

theorem nextRecord_first {g : Sampling} (hw : g.watchMode = false) :
    g.nextRecord 0 = if 1 ≤ g.length then some 0 else none := by
  unfold Sampling.nextRecord
  rw [hw]
  split
  · next h =>
    rw [show List.finRange 16 = 0 :: (List.finRange 16).tail from rfl, List.find?_cons_of_pos]
    simp; omega
  · next h =>
    refine List.find?_eq_none.2 fun i _ => ?_
    simp; omega

theorem loadSampling_started (image : Image) (now : Nat) : (loadSampling image).enterDrive now =
    { loadSampling image with
      scan := if 1 ≤ (loadSampling image).length then some { record := 0, stop := now + 125 } else none
      trigger := some (now + 2000) } := by
  have hinputs : mapAll (Vector.replicate 12 coldInput) (fun _ x => x.dropCurrent) = Vector.replicate 12 coldInput :=
    mapAll_replicate _ _ _ fun _ => rfl
  have habort : ({ (loadSampling image).abort with watchMode := false, watchTimer := none } : Sampling) =
      loadSampling image := by
    unfold Sampling.abort
    rw [show (loadSampling image).inputs = Vector.replicate 12 coldInput from rfl, hinputs]
    rfl
  unfold Sampling.enterDrive Sampling.start
  rw [habort, nextRecord_first rfl]
  split <;> rfl

theorem loadRoster_slot (v : Vector StoredRecord 16) (a : Address) : (loadRoster v)[a] = loadRecord v[a] :=
  Vector.getElem_ofFn _

theorem factoryRoster_slot (a : Address) : factoryRoster[a] =
    if a = 15 then { enrolled := true, classes := 0b10000#5, scope := 0b111111#6, configure := true }
    else { enrolled := false, classes := 0#5, scope := 0#6, configure := false } :=
  Vector.getElem_ofFn _

theorem loadRoster_image (image : Image) (a : Address) :
    (loadRoster (if image.valid then image.roster else factoryRoster))[a] =
      if image.valid = true then
        { state := if image.roster[a].enrolled = true then .enrolled else .absent
          classes := image.roster[a].classes, scope := image.roster[a].scope
          configure := image.roster[a].configure, malformed := 0, muteTimer := none }
      else if a = 15 then
        { state := .enrolled, classes := 0b10000#5, scope := 0b111111#6, configure := true, malformed := 0,
          muteTimer := none }
      else { state := .absent, classes := 0#5, scope := 0#6, configure := false, malformed := 0, muteTimer := none } := by
  rw [loadRoster_slot]
  cases image.valid with
  | true => rfl
  | false =>
    change loadRecord factoryRoster[a] = if a = 15 then _ else _
    rw [factoryRoster_slot]
    split <;> rfl

/-! ### The cold start as a whole -/

/-- The coordinator's record at a cold start, by the ignition line (R166, R183, R189). -/
def startCoordinator (s : State) : Coordinator :=
  { state := if s.lines.ignition = true then .autoPark else .securing
    settleTimer := none, settled := false, dwellTimer := none
    quietTimer :=
      if s.lines.ignition = true then some (s.clock.us + (loadSettings s.settings.image).params.quietWindow * 1000000)
      else none
    armed := true, edges := Vector.replicate 6 0, ignitionOffPending := false, watchOpen := false
    withheldTimer := none, springCycles := [], promotionRefused := 0, airLow := false, rollingSecured := false
    rolling := Vector.replicate 6 [] }

/-- The table after a cold start, by the ignition line (R25, R183, R189). -/
def coldStartTable (s : State) : Table :=
  if s.lines.ignition = true then startTable s else securingTable (startedState s)

theorem coldStart_eq (s : State) :
    coldStart s = { startedState s with coord := startCoordinator s, table := coldStartTable s } := by
  unfold startCoordinator coldStartTable
  cases h : s.lines.ignition with
  | true => rw [coldStart_on h]; rfl
  | false => rw [coldStart_off h]; rfl

theorem coldStartTable_other (s : State) {i : Slot} (h : i ≠ 3) : (coldStartTable s)[i] = (startTable s)[i] := by
  unfold coldStartTable
  split
  · rfl
  · exact securingTable_other _ h

theorem startTable_slot0 (s : State) : (startTable s)[(0 : Slot)] = some pedalEntry := by
  unfold startTable coldTable
  rw [put_slot_other _ _ (by decide), put_slot_other _ _ (by decide), put_slot_other _ _ (by decide), put_slot_same]

theorem startTable_slot1 (s : State) : (startTable s)[(1 : Slot)] =
    if s.door.raw then some (doorEntry (loadSettings s.settings.image).params (Config.coldMs s.draws)) else none := by
  unfold startTable coldTable
  rw [put_slot_other _ _ (by decide), put_slot_other _ _ (by decide), put_slot_same]

theorem startTable_slot2 (s : State) :
    (startTable s)[(2 : Slot)] = if s.parkSwitch.raw then some (parkEntry 18) else none := by
  unfold startTable coldTable
  rw [put_slot_other _ _ (by decide), put_slot_same, newEntry_park]

theorem startTable_slot3 (s : State) : (startTable s)[(3 : Slot)] = none := by
  unfold startTable
  rw [put_slot_other _ _ (by decide), coldTable_other _ _ _ _ (by decide)]

theorem startTable_slot4 (s : State) : (startTable s)[(4 : Slot)] = some (parkEntry 19) := put_slot_same _ _ _

theorem startTable_other (s : State) {i : Slot} (h : 5 ≤ i.val) : (startTable s)[i] = none := by
  have h4 : i ≠ 4 := fun he => by subst he; exact absurd h (by decide)
  unfold startTable
  rw [put_slot_other _ _ h4, coldTable_other _ _ _ _ (by omega)]

/-- Slot 3 posted at hold_max where it was vacant (R183). -/
theorem securingTable_vacant {s : State} (h : s.table[(3 : Slot)] = none)
    (hle : s.settings.params.holdMin ≤ s.settings.params.holdMax) : (securingTable s)[(3 : Slot)] =
      some { source := 19, cls := .hold, scope := 0b111111#6, value := some s.settings.params.holdMax, lifetime := none,
             deadline := none, policy := .rampOut, gate := none, state := .active, blend := 0 } := by
  have hclamp : clampTo s.settings.params.holdMax s.settings.params.holdMin s.settings.params.holdMax =
      s.settings.params.holdMax := by unfold clampTo; omega
  unfold securingTable
  rw [hclamp, homePost_vacant _ _ _ h, put_slot_same]
  rfl

/-- Settles O31: the blocks, the settings, the table and the coordinator of a cold start, by the lines and the image. -/
theorem coldStarts : Obligations.ColdStarts := by
  unfold Obligations.ColdStarts
  rintro p n records valid s rfl rfl rfl rfl
  have hslot (i : Slot) (hi : i ≠ 3) := coldStartTable_other s hi
  refine ⟨_, congrArg Host.Outcome.next (coldStart_eq s), rfl, rfl, rfl, rfl, loadRoster_image _, loadSampling_started _ _,
    fun i hi => ?_, ?_, ?_, ?_, ?_, rfl, rfl, rfl, rfl, rfl, rfl, rfl, rfl, rfl, rfl, fun c => ?_, rfl, rfl, rfl, fun c => ?_,
    rfl, rfl, fun k => ?_, rfl, rfl, fun hon => ?_, fun hoff hle => ?_⟩
  · have h3 : i ≠ 3 := fun he => by subst he; exact absurd hi (by decide)
    exact (hslot i h3).trans (startTable_other s hi)
  · exact (hslot 0 (by decide)).trans (startTable_slot0 s)
  · exact (hslot 1 (by decide)).trans (startTable_slot1 s)
  · exact (hslot 2 (by decide)).trans (startTable_slot2 s)
  · exact (hslot 4 (by decide)).trans (startTable_slot4 s)
  · exact Vector.getElem_replicate _
  · exact Vector.getElem_replicate _
  · exact Vector.getElem_replicate _
  · have htable : coldStartTable s = startTable s := if_pos hon
    exact (congrArg (·[(3 : Slot)]) htable).trans (startTable_slot3 s)
  · have htable : coldStartTable s = securingTable (startedState s) := if_neg (by rw [hoff]; decide)
    exact (congrArg (·[(3 : Slot)]) htable).trans (securingTable_vacant (startTable_slot3 s) hle)

end Sys2Proof.Machine
end

section
/-!
PROOFS. The allocation period, its targets and commands: the greatest entry pressure, the clamps, the slew and the command of
each phase (R18, R71 to R85).
-/

namespace Sys2Proof.Machine

open Sys2Proof.Safety

-- One theorem after another: elaborated all at once they need more thread stacks than the check's memory limit grants.
set_option Elab.async false

/-! ### Entry pressures (R71 to R74) -/

theorem Entry.contributes_iff (e : Entry) (c : Channel) (vref : Nat) :
    e.contributes c vref = true ↔ e.scope.getLsbD c.val = true ∧ e.cls ≠ .park ∧
      (∀ g : Byte, e.gate = some g → vref ≤ g.toNat) ∧ (e.cls = .test → vref = 0) := by
  have htest : (e.cls != .test || decide (vref = 0)) = true ↔ (e.cls = .test → vref = 0) := by
    by_cases hc : e.cls = .test <;> simp [hc]
  unfold Entry.contributes
  cases hg : e.gate with
  | none => simp only [Bool.and_eq_true, htest]; simp [and_assoc]
  | some g => simp only [Bool.and_eq_true, htest]; simp [and_assoc]

theorem Entry.pressure_outside {e : Entry} {c : Channel} {vref : Nat} (p : Params) (h : e.contributes c vref = false) :
    e.pressure p c vref = 0 := by
  unfold Entry.pressure; rw [h]; rfl

theorem Entry.pressure_hold {e : Entry} {c : Channel} {vref : Nat} (p : Params) (h : e.contributes c vref = true)
    (hc : e.cls = .hold) : e.pressure p c vref = e.effective := by
  unfold Entry.pressure; rw [h, hc]; rfl

theorem Entry.pressure_decel {e : Entry} {c : Channel} {vref : Nat} (p : Params) (h : e.contributes c vref = true)
    (hc : e.cls ≠ .hold) : e.pressure p c vref = decelPressure p (axleOf c) e.effective := by
  unfold Entry.pressure; rw [h]; exact if_neg hc

/-! ### The greatest entry pressure (R75) -/

theorem le_foldl_max {ι : Type} (f : ι → Nat) (l : List ι) (m : Nat) : m ≤ l.foldl (fun m i => max m (f i)) m := by
  induction l generalizing m with
  | nil => exact Nat.le_refl m
  | cons i l ih => exact Nat.le_trans (Nat.le_max_left _ _) (ih _)

theorem mem_le_foldl_max {ι : Type} (f : ι → Nat) {l : List ι} {i : ι} (h : i ∈ l) (m : Nat) :
    f i ≤ l.foldl (fun m i => max m (f i)) m := by
  induction h generalizing m with
  | head l => exact Nat.le_trans (Nat.le_max_right _ _) (le_foldl_max f l _)
  | tail j _ ih => exact ih _

theorem foldl_max_attained {ι : Type} (f : ι → Nat) (l : List ι) (m : Nat) :
    l.foldl (fun m i => max m (f i)) m = m ∨ ∃ i ∈ l, l.foldl (fun m i => max m (f i)) m = f i := by
  induction l generalizing m with
  | nil => exact .inl rfl
  | cons i l ih =>
    rw [List.foldl_cons]
    rcases ih (max m (f i)) with h | ⟨j, hj, h⟩
    · rcases Nat.le_total m (f i) with hle | hle
      · exact .inr ⟨i, List.mem_cons_self, h.trans (Nat.max_eq_right hle)⟩
      · exact .inl (h.trans (Nat.max_eq_left hle))
    · exact .inr ⟨j, List.mem_cons_of_mem _ hj, h⟩

/-- The pressure a slot gives: 0 where it is vacant. -/
def slotPressure (t : Table) (p : Params) (c : Channel) (vref : Nat) (i : Slot) : Nat :=
  (t[i].map fun e => e.pressure p c vref).getD 0

theorem slotPressure_some {t : Table} {i : Slot} {e : Entry} (p : Params) (c : Channel) (vref : Nat) (h : t[i] = some e) :
    slotPressure t p c vref i = e.pressure p c vref := by
  unfold slotPressure; rw [h]; rfl

theorem arbitrated_eq (t : Table) (p : Params) (c : Channel) (vref : Nat) :
    arbitrated t p c vref = (List.finRange 32).foldl (fun m i => max m (slotPressure t p c vref i)) 0 := by
  unfold arbitrated
  congr 1
  funext m i
  unfold slotPressure
  cases t[i] with
  | none => exact (Nat.max_zero m).symm
  | some e => rfl

theorem pressure_le_arbitrated {t : Table} {i : Slot} {e : Entry} (p : Params) (c : Channel) (vref : Nat)
    (h : t[i] = some e) : e.pressure p c vref ≤ arbitrated t p c vref := by
  rw [arbitrated_eq, ← slotPressure_some p c vref h]
  exact mem_le_foldl_max _ (List.mem_finRange i) 0

theorem arbitrated_attained (t : Table) (p : Params) (c : Channel) (vref : Nat) :
    arbitrated t p c vref = 0 ∨
      ∃ (i : Slot) (e : Entry), t[i] = some e ∧ arbitrated t p c vref = e.pressure p c vref := by
  rw [arbitrated_eq]
  rcases foldl_max_attained (slotPressure t p c vref) (List.finRange 32) 0 with h | ⟨i, -, h⟩
  · exact .inl h
  · cases hi : t[i] with
    | none => exact .inl (h.trans (by unfold slotPressure; rw [hi]; rfl))
    | some e => exact .inr ⟨i, e, hi, h.trans (slotPressure_some p c vref hi)⟩

/-! ### The slewed target (R79, R80) -/

theorem emergencyActs_iff (t : Table) (c : Channel) (vref : Nat) : emergencyActs t c vref = true ↔
    ∃ (i : Slot) (e : Entry), t[i] = some e ∧ e.cls = .emergency ∧ e.contributes c vref = true ∧ 0 < e.effective := by
  unfold emergencyActs
  rw [List.any_eq_true]
  constructor
  · rintro ⟨i, -, h⟩
    cases hi : t[i] with
    | none => rw [hi] at h; cases h
    | some e =>
      rw [hi] at h
      simp only [Bool.and_eq_true, decide_eq_true_eq] at h
      obtain ⟨⟨hc, hcon⟩, heff⟩ := h
      exact ⟨i, e, hi, hc, hcon, heff⟩
  · rintro ⟨i, e, hi, hc, hcon, heff⟩
    refine ⟨i, List.mem_finRange i, ?_⟩
    rw [hi]
    simp only [Bool.and_eq_true, decide_eq_true_eq]
    exact ⟨⟨hc, hcon⟩, heff⟩

theorem slewed_taken {p : Params} {previous demand : Nat} (h : previous < demand) : slewed p true previous demand = demand := by
  unfold slewed; rw [if_pos h]; rfl

theorem slewed_rises {p : Params} {previous demand : Nat} (h : previous < demand) :
    slewed p false previous demand = min (previous + p.slewUp) demand := by
  unfold slewed; rw [if_pos h]; rfl

theorem slewed_falls {p : Params} {previous demand : Nat} (b : Bool) (h : demand ≤ previous) :
    slewed p b previous demand = max (previous - p.slewDown) demand := by
  unfold slewed; rw [if_neg (Nat.not_lt.2 h)]

theorem slewed_ge (p : Params) (b : Bool) (previous demand : Nat) : previous - p.slewDown ≤ slewed p b previous demand := by
  rcases Nat.lt_or_ge previous demand with h | h
  · cases b
    · rw [slewed_rises h]; omega
    · rw [slewed_taken h]; omega
  · rw [slewed_falls b h]; omega

theorem slewed_le_max (p : Params) (b : Bool) (previous demand : Nat) :
    slewed p b previous demand ≤ max (previous - p.slewDown) demand := by
  rcases Nat.lt_or_ge previous demand with h | h
  · cases b
    · rw [slewed_rises h]; omega
    · rw [slewed_taken h]; omega
  · rw [slewed_falls b h]

theorem slewed_le_up (p : Params) (previous demand : Nat) : slewed p false previous demand ≤ previous + p.slewUp := by
  rcases Nat.lt_or_ge previous demand with h | h
  · rw [slewed_rises h]; omega
  · rw [slewed_falls _ h]; omega

theorem demandPressure_le_supply (s : State) (t : Table) (c : Channel) :
    demandPressure s t c ≤ supply s.sampling (circuitOf c) - 30 := by
  unfold demandPressure channelLimit supplyLimit; omega

theorem advanced_vacant {t : Table} {i : Slot} (h : t[i] = none) : (advanced t)[i] = none := by
  rw [advanced_slot, h]; rfl

/-- The advance of a blend leaves the class of its entry (R18). -/
theorem Entry.advance_cls {e f : Entry} (h : e.advance = some f) : f.cls = e.cls := by
  by_cases hc : e.cls = .park
  · rw [Entry.advance_park hc] at h; cases h; rfl
  · cases hs : e.state with
    | active => rw [Entry.advance_active hc hs] at h; cases h; rfl
    | frozen => rw [Entry.advance_frozen hc hs] at h; cases h; rfl
    | lapsing =>
      rw [Entry.advance_falling hc (.inr hs)] at h
      split at h
      · cases h
      · cases h; rfl
    | retiring =>
      rw [Entry.advance_falling hc (.inl hs)] at h
      split at h
      · cases h
      · cases h; rfl

theorem emergencyActs_none {t : Table} (c : Channel) (vref : Nat)
    (h : ∀ (i : Slot) (e : Entry), t[i] = some e → e.cls ≠ .emergency) : emergencyActs (advanced t) c vref = false := by
  refine Bool.eq_false_iff.2 fun hacts => ?_
  obtain ⟨i, f, hf, hc, -, -⟩ := (emergencyActs_iff _ _ _).1 hacts
  rw [advanced_slot] at hf
  obtain ⟨e, he, hadv⟩ := Option.bind_eq_some_iff.1 hf
  exact h i e he ((Entry.advance_cls hadv).symm.trans hc)

/-! ### The command of a channel (R81 to R85) -/

theorem commandOf_off {s : State} (target : Vector Nat 6) (x : Slip) {c : Channel}
    (h : s.circuit[circuitOf c].mode ≠ .electronic) : commandOf s target x c = { dir := .hold, duty := 0 } := by
  have : electronic s c = false := decide_eq_false h
  unfold commandOf; rw [this]; rfl

theorem commandOf_electronic {s : State} (target : Vector Nat 6) (x : Slip) {c : Channel}
    (h : s.circuit[circuitOf c].mode = .electronic) : commandOf s target x c =
      match sourceOf x c with
      | .forced k => k
      | .normal =>
          if pressureInvalid s.sampling c then holdCommand
          else formCommand s.settings.params target[c] (measured s.sampling c)
      | .reapply =>
          if pressureInvalid s.sampling c then holdCommand
          else formCommand s.settings.params x.reapply[c] (measured s.sampling c) := by
  have : electronic s c = true := decide_eq_true h
  unfold commandOf; rw [this]; rfl

theorem commandOf_dump {s : State} (target : Vector Nat 6) {x : Slip} {c : Channel}
    (h : s.circuit[circuitOf c].mode = .electronic) (hp : reportedPhase x c = .dump) :
    commandOf s target x c = { dir := .release, duty := 100 } := by
  rw [commandOf_electronic _ _ h]; unfold sourceOf; rw [hp]

theorem commandOf_hold {s : State} (target : Vector Nat 6) {x : Slip} {c : Channel}
    (h : s.circuit[circuitOf c].mode = .electronic) (hp : reportedPhase x c = .hold) :
    commandOf s target x c = { dir := .hold, duty := 0 } := by
  rw [commandOf_electronic _ _ h]; unfold sourceOf; rw [hp]; rfl

theorem commandOf_follow {s : State} (target : Vector Nat 6) {x : Slip} {c : Channel}
    (h : s.circuit[circuitOf c].mode = .electronic) (hp : reportedPhase x c = .follow)
    (hv : pressureInvalid s.sampling c = false) :
    commandOf s target x c = formCommand s.settings.params target[c] (measured s.sampling c) := by
  rw [commandOf_electronic _ _ h]; unfold sourceOf; rw [hp, hv]; rfl

theorem commandOf_reapply {s : State} (target : Vector Nat 6) {x : Slip} {c : Channel}
    (h : s.circuit[circuitOf c].mode = .electronic) (hp : reportedPhase x c = .reapply)
    (hv : pressureInvalid s.sampling c = false) :
    commandOf s target x c = formCommand s.settings.params x.reapply[c] (measured s.sampling c) := by
  rw [commandOf_electronic _ _ h]; unfold sourceOf; rw [hp, hv]; rfl

/-- An INVALID pressure point in FOLLOW is written HOLD with duty 0, on either circuit mode (R84, R85). -/
theorem commandOf_invalid {s : State} (target : Vector Nat 6) {x : Slip} {c : Channel}
    (hv : pressureInvalid s.sampling c = true) (hp : reportedPhase x c = .follow) :
    commandOf s target x c = { dir := .hold, duty := 0 } := by
  by_cases h : s.circuit[circuitOf c].mode = .electronic
  · rw [commandOf_electronic _ _ h]; unfold sourceOf; rw [hp, hv]; rfl
  · exact commandOf_off _ _ h

theorem allocate_chan (s : State) (c : Channel) : (allocate s).valve.chan[c] =
    { s.valve.chan[c] with buffer := commandOf s (periodTargets s) (slipPeriod s (periodTargets s)) c } :=
  mapAll_get _ _ c

theorem allocate_buffer (s : State) (c : Channel) :
    (allocate s).valve.chan[c].buffer = commandOf s (allocate s).alloc.target (allocate s).slip c := by
  rw [allocate_chan]; rfl

theorem allocate_supplyLimited (s : State) (c : Channel) : (allocate s).alloc.supplyLimited[c] =
    decide (channelLimit s c < demandAtPmax s (advanced s.table) c) := Vector.getElem_ofFn _

/-! ### The period as a whole -/

/-- The bounds of the targets, of the buffers and of everything else at an allocation period (R65, R76 to R80, R84, R85). -/
theorem allocate_bounds (s : State) (c : Channel) (h : s.alloc.target[c] ≤ s.settings.params.pmax (axleOf c)) :
    (allocate s).alloc.target[c] ≤ s.settings.params.pmax (axleOf c) ∧
    s.alloc.target[c] - s.settings.params.slewDown ≤ (allocate s).alloc.target[c] ∧
    (allocate s).alloc.target[c] ≤ max (s.alloc.target[c] - s.settings.params.slewDown)
      (supply s.sampling (circuitOf c) - 30) ∧
    ((∀ (i : Slot) (e : Entry), s.table[i] = some e → e.cls ≠ .emergency) →
      (allocate s).alloc.target[c] ≤ s.alloc.target[c] + s.settings.params.slewUp) := by
  have hpmax := demandPressure_le_pmax s (advanced s.table) c
  have hsupply := demandPressure_le_supply s (advanced s.table) c
  rw [allocate_target]
  unfold targetOf
  refine ⟨slewed_le h hpmax, slewed_ge _ _ _ _, ?_, fun hno => ?_⟩
  · exact Nat.le_trans (slewed_le_max _ _ _ _) (max_le_max (Nat.le_refl _) hsupply)
  · rw [emergencyActs_none c s.vref hno]
    exact slewed_le_up _ _ _

/-- The blends at an allocation period (R18). -/
theorem advanced_entry {t : Table} {i : Slot} {e : Entry} (h : t[i] = some e) :
    (e.cls = .park → (advanced t)[i] = some e) ∧
    (e.cls ≠ .park → e.state = .active → (advanced t)[i] = some { e with blend := min 64 (e.blend + rampIn e.cls) }) ∧
    (e.cls ≠ .park → e.state = .frozen → (advanced t)[i] = some e) ∧
    (e.cls ≠ .park → e.state = .retiring ∨ e.state = .lapsing → (advanced t)[i] =
      if e.blend ≤ rampOut e.cls then none else some { e with blend := e.blend - rampOut e.cls }) := by
  have hadv : (advanced t)[i] = e.advance := by rw [advanced_slot, h]; rfl
  rw [hadv]
  exact ⟨Entry.advance_park, Entry.advance_active, Entry.advance_frozen, Entry.advance_falling⟩

/-- The target of a channel from the greatest entry pressure, clamped and slewed (R75 to R80). -/
theorem allocate_slews (s : State) (c : Channel) (a d : Nat)
    (ha : a = arbitrated (advanced s.table) s.settings.params c s.vref)
    (hd : d = min (min a (s.settings.params.pmax (axleOf c))) (supply s.sampling (circuitOf c) - 30)) :
    (allocate s).alloc.supplyLimited[c] = decide (d < min a (s.settings.params.pmax (axleOf c))) ∧
    (s.alloc.target[c] < d →
      (∃ (i : Slot) (e : Entry), (advanced s.table)[i] = some e ∧ e.cls = .emergency ∧ e.contributes c s.vref = true ∧
        0 < e.effective) → (allocate s).alloc.target[c] = d) ∧
    (s.alloc.target[c] < d →
      (∀ (i : Slot) (e : Entry), (advanced s.table)[i] = some e → e.cls = .emergency → e.contributes c s.vref = true →
        e.effective = 0) → (allocate s).alloc.target[c] = min (s.alloc.target[c] + s.settings.params.slewUp) d) ∧
    (d ≤ s.alloc.target[c] → (allocate s).alloc.target[c] = max (s.alloc.target[c] - s.settings.params.slewDown) d) := by
  have hdemand : demandPressure s (advanced s.table) c = d := by rw [hd, ha]; rfl
  rw [allocate_target, allocate_supplyLimited]
  unfold targetOf
  rw [hdemand]
  refine ⟨?_, fun hlt hacts => ?_, fun hlt hno => ?_, slewed_falls _⟩
  · have hmax : demandAtPmax s (advanced s.table) c = min a (s.settings.params.pmax (axleOf c)) := by rw [ha]; rfl
    have hlimit : channelLimit s c = supply s.sampling (circuitOf c) - 30 := rfl
    rw [hmax, hlimit, hd]
    exact decide_eq_decide.2 (by omega)
  · rw [(emergencyActs_iff _ _ _).2 hacts, slewed_taken hlt]
  · have hquiet : emergencyActs (advanced s.table) c s.vref = false := by
      refine Bool.eq_false_iff.2 fun hacts => ?_
      obtain ⟨i, e, he, hc, hcon, heff⟩ := (emergencyActs_iff _ _ _).1 hacts
      exact absurd (hno i e he hc hcon) (Nat.ne_of_gt heff)
    rw [hquiet, slewed_rises hlt]

/-- The command of a channel under electronic control, by its phase (R81, R83). -/
theorem allocate_commands (s : State) (c : Channel) (x p : Nat) (h : s.circuit[circuitOf c].mode = .electronic)
    (hp : p = measured s.sampling c) :
    (reportedPhase (allocate s).slip c = .dump → (allocate s).valve.chan[c].buffer = { dir := .release, duty := 100 }) ∧
    (reportedPhase (allocate s).slip c = .hold → (allocate s).valve.chan[c].buffer = { dir := .hold, duty := 0 }) ∧
    (pressureInvalid s.sampling c = false →
      (reportedPhase (allocate s).slip c = .follow ∧ x = (allocate s).alloc.target[c] ∨
        reportedPhase (allocate s).slip c = .reapply ∧ x = (allocate s).slip.reapply[c]) →
      (allocate s).valve.chan[c].buffer = formCommand s.settings.params x p) := by
  rw [allocate_buffer, hp]
  refine ⟨commandOf_dump _ h, commandOf_hold _ h, ?_⟩
  rintro hv (⟨hphase, rfl⟩ | ⟨hphase, rfl⟩)
  · exact commandOf_follow _ h hphase hv
  · exact commandOf_reapply _ h hphase hv

end Sys2Proof.Machine
end

section
/-!
PROOFS. Slip control at an allocation period: the decision of a group, what the groups leave to each other, and the
obligation on the allocation period (R98, R101 to R108).
-/

namespace Sys2Proof.Machine

open Sys2Proof.Safety

-- One theorem after another: elaborated all at once they need more thread stacks than the check's memory limit grants.
set_option Elab.async false

/-! ### The decision of a group (R101 to R107) -/

section
variable {p : Params} {g : SlipGroup} {l : List Channel} {slip target pressure rc : Channel → Nat}

/-- A channel of the group slips at slip_on or above with a target (R102). -/
theorem dumping_iff : (l.any fun c => decide (p.slipOn ≤ slip c) && decide (0 < target c)) = true ↔
    ∃ c ∈ l, p.slipOn ≤ slip c ∧ 0 < target c := by
  simp

theorem decideGroup_relieved (h : ∀ c ∈ l, target c = 0) :
    decideGroup p g l slip target pressure rc = .plain followGroup := by
  unfold decideGroup
  exact if_pos (List.all_eq_true.2 fun c hc => decide_eq_true (h c hc))

theorem not_all_relieved (h : ∃ c ∈ l, 0 < target c) : ¬ (l.all fun c => decide (target c = 0)) = true := by
  obtain ⟨c, hc, hpos⟩ := h
  intro hall
  have := of_decide_eq_true (List.all_eq_true.1 hall c hc)
  omega

theorem not_dumping (h : ∀ c ∈ l, slip c < p.slipOn ∨ target c = 0) :
    (l.any fun c => decide (p.slipOn ≤ slip c) && decide (0 < target c)) = false := by
  refine Bool.eq_false_iff.2 fun hany => ?_
  obtain ⟨c, hc, hslip, hpos⟩ := dumping_iff.1 hany
  rcases h c hc with h | h <;> omega

theorem decideGroup_dumps (h : ∃ c ∈ l, p.slipOn ≤ slip c ∧ 0 < target c) (hg : g.phase ≠ .dump) :
    decideGroup p g l slip target pressure rc = .plain { phase := .dump, dump := 1, hold := 0 } := by
  have hpos : ∃ c ∈ l, 0 < target c := h.imp fun c hc => ⟨hc.1, hc.2.2⟩
  unfold decideGroup
  dsimp only
  rw [if_neg (not_all_relieved hpos), dumping_iff.2 h]
  cases hp : g.phase with
  | follow => rfl
  | dump => exact absurd hp hg
  | hold => rfl
  | reapply => rfl

theorem decideGroup_holds (hpos : ∃ c ∈ l, 0 < target c) (hg : g.phase = .dump) (h : ∀ c ∈ l, slip c < p.slipOff) :
    decideGroup p g l slip target pressure rc = .plain { phase := .hold, dump := 0, hold := 1 } := by
  unfold decideGroup
  dsimp only
  rw [if_neg (not_all_relieved hpos), hg]
  exact if_pos (List.all_eq_true.2 fun c hc => decide_eq_true (h c hc))

theorem not_all_recovered (h : ∃ c ∈ l, p.slipOff ≤ slip c) : ¬ (l.all fun c => decide (slip c < p.slipOff)) = true := by
  obtain ⟨c, hc, hslip⟩ := h
  intro hall
  have := of_decide_eq_true (List.all_eq_true.1 hall c hc)
  omega

theorem decideGroup_dumps_on (hpos : ∃ c ∈ l, 0 < target c) (hg : g.phase = .dump) (h : ∃ c ∈ l, p.slipOff ≤ slip c)
    (hd : g.dump < 50) :
    decideGroup p g l slip target pressure rc = .plain { phase := .dump, dump := g.dump + 1, hold := 0 } := by
  unfold decideGroup
  dsimp only
  rw [if_neg (not_all_relieved hpos), hg]
  dsimp only
  rw [if_neg (not_all_recovered h), if_pos hd]

theorem decideGroup_faults (hpos : ∃ c ∈ l, 0 < target c) (hg : g.phase = .dump) (h : ∃ c ∈ l, p.slipOff ≤ slip c)
    (hd : 50 ≤ g.dump) :
    decideGroup p g l slip target pressure rc = { group := followGroup, reapply := fun _ => 0, fault := true } := by
  unfold decideGroup
  dsimp only
  rw [if_neg (not_all_relieved hpos), hg]
  dsimp only
  rw [if_neg (not_all_recovered h), if_neg (Nat.not_lt.2 hd)]

theorem decideGroup_follows (hpos : ∃ c ∈ l, 0 < target c) (hg : g.phase = .follow)
    (h : ∀ c ∈ l, slip c < p.slipOn ∨ target c = 0) :
    decideGroup p g l slip target pressure rc = .plain followGroup := by
  unfold decideGroup
  dsimp only
  rw [if_neg (not_all_relieved hpos), hg, not_dumping h]
  rfl

theorem decideGroup_holds_on (hpos : ∃ c ∈ l, 0 < target c) (hg : g.phase = .hold)
    (h : ∀ c ∈ l, slip c < p.slipOn ∨ target c = 0) (hh : g.hold < 3) :
    decideGroup p g l slip target pressure rc = .plain { phase := .hold, dump := 0, hold := g.hold + 1 } := by
  unfold decideGroup
  dsimp only
  rw [if_neg (not_all_relieved hpos), hg, not_dumping h]
  exact if_pos hh

/-- The reapply pressure of a channel: the measured one on entry, then a step more, never above the target (R104, R105). -/
def reapplyPressure (p : Params) (g : SlipGroup) (target pressure rc : Channel → Nat) (c : Channel) : Nat :=
  min (target c) (if g.phase = .hold then pressure c else rc c + p.reapplyStep)

theorem decideGroup_reapplies (hpos : ∃ c ∈ l, 0 < target c)
    (hg : g.phase = .hold ∧ 3 ≤ g.hold ∨ g.phase = .reapply) (h : ∀ c ∈ l, slip c < p.slipOn ∨ target c = 0) :
    decideGroup p g l slip target pressure rc = reapplyDecision l target (reapplyPressure p g target pressure rc) := by
  unfold decideGroup
  dsimp only
  rw [if_neg (not_all_relieved hpos), not_dumping h]
  rcases hg with ⟨hg, hh⟩ | hg
  · have hrc : (fun c => min (pressure c) (target c)) = reapplyPressure p g target pressure rc := by
      funext c
      unfold reapplyPressure
      rw [if_pos hg, Nat.min_comm]
    rw [← hrc, hg]
    exact (if_neg (by decide)).trans (if_neg (Nat.not_lt.2 hh))
  · have hrc : (fun c => min (rc c + p.reapplyStep) (target c)) = reapplyPressure p g target pressure rc := by
      funext c
      unfold reapplyPressure
      rw [if_neg (by rw [hg]; decide), Nat.min_comm]
    rw [← hrc, hg]
    exact if_neg (by decide)

theorem reapplyDecision_met (h : ∀ c ∈ l, rc c = target c) : reapplyDecision l target rc = .plain followGroup :=
  if_pos (List.all_eq_true.2 fun c hc => decide_eq_true (h c hc))

theorem reapplyDecision_open (h : ∃ c ∈ l, rc c ≠ target c) :
    reapplyDecision l target rc = { group := { phase := .reapply, dump := 0, hold := 0 }, reapply := rc, fault := false } := by
  refine if_neg fun hall => ?_
  obtain ⟨c, hc, hne⟩ := h
  exact hne (of_decide_eq_true (List.all_eq_true.1 hall c hc))

theorem reapplyDecision_pressure (c : Channel) (h : (reapplyDecision l target rc).group.phase ≠ .reapply) :
    (reapplyDecision l target rc).reapply c = 0 := by
  unfold reapplyDecision at h ⊢
  split at h
  · next hall => rw [if_pos hall]; rfl
  · exact absurd rfl h

/-- Outside REAPPLY a decision leaves no reapply pressure (R104). -/
theorem decideGroup_pressure (c : Channel) (h : (decideGroup p g l slip target pressure rc).group.phase ≠ .reapply) :
    (decideGroup p g l slip target pressure rc).reapply c = 0 := by
  by_cases hzero : ∀ c ∈ l, target c = 0
  · rw [decideGroup_relieved hzero]; rfl
  have hpos : ∃ c ∈ l, 0 < target c := by
    simp only [not_forall] at hzero
    obtain ⟨c, hc, hne⟩ := hzero
    exact ⟨c, hc, Nat.pos_of_ne_zero hne⟩
  by_cases hdump : g.phase = .dump
  · by_cases hoff : ∀ c ∈ l, slip c < p.slipOff
    · rw [decideGroup_holds hpos hdump hoff]; rfl
    have hstill : ∃ c ∈ l, p.slipOff ≤ slip c := by
      simp only [not_forall, Nat.not_lt] at hoff
      obtain ⟨c, hc, hle⟩ := hoff
      exact ⟨c, hc, hle⟩
    rcases Nat.lt_or_ge g.dump 50 with hlt | hge
    · rw [decideGroup_dumps_on hpos hdump hstill hlt]; rfl
    · rw [decideGroup_faults hpos hdump hstill hge]
  by_cases hdumping : ∃ c ∈ l, p.slipOn ≤ slip c ∧ 0 < target c
  · rw [decideGroup_dumps hdumping hdump]; rfl
  have hquiet : ∀ c ∈ l, slip c < p.slipOn ∨ target c = 0 := fun c hc => by
    have : ¬ (p.slipOn ≤ slip c ∧ 0 < target c) := fun hd => hdumping ⟨c, hc, hd⟩
    omega
  cases hg : g.phase with
  | follow => rw [decideGroup_follows hpos hg hquiet]; rfl
  | dump => exact absurd hg hdump
  | hold =>
    rcases Nat.lt_or_ge g.hold 3 with hlt | hge
    · rw [decideGroup_holds_on hpos hg hquiet hlt]; rfl
    · rw [decideGroup_reapplies hpos (.inl ⟨hg, hge⟩) hquiet] at h ⊢
      exact reapplyDecision_pressure c h
  | reapply =>
    rw [decideGroup_reapplies hpos (.inr hg) hquiet] at h ⊢
    exact reapplyDecision_pressure c h

end

/-! ### The groups one after another (R101, R108) -/

theorem mem_groupChannels (k : Fin 5) (c : Channel) : c ∈ groupChannels k ↔ groupOf c = k := by
  unfold groupChannels
  simp

/-- Two slip records agree on a group: its record, the pair's joined channels, and its channels' pressures and faults. -/
structure SameGroup (k : Fin 5) (x y : Slip) : Prop where
  group   : y.group[k] = x.group[k]
  tl      : y.tlJoined = x.tlJoined
  tr      : y.trJoined = x.trJoined
  reapply : ∀ c, groupOf c = k → y.reapply[c] = x.reapply[c]
  fault   : ∀ c, groupOf c = k → y.fault[c] = x.fault[c]

theorem SameGroup.refl (k : Fin 5) (x : Slip) : SameGroup k x x := ⟨rfl, rfl, rfl, fun _ _ => rfl, fun _ _ => rfl⟩

theorem SameGroup.trans {k : Fin 5} {x y z : Slip} (h : SameGroup k x y) (h' : SameGroup k y z) : SameGroup k x z :=
  ⟨h'.group.trans h.group, h'.tl.trans h.tl, h'.tr.trans h.tr, fun c hc => (h'.reapply c hc).trans (h.reapply c hc),
    fun c hc => (h'.fault c hc).trans (h.fault c hc)⟩

/-- The decision of one group, as slip control takes it (R101). -/
def groupDecision (s : State) (target : Vector Nat 6) (x : Slip) (g : Fin 5) : SlipDecision :=
  decideGroup s.settings.params x.group[g] (groupMembers x s.wheel g) (fun c => slipOf s.vref s.wheel[c].speed)
    (fun c => target[c]) (fun c => measured s.sampling c) (fun c => x.reapply[c])

theorem decideOne_electronic {s : State} (target : Vector Nat 6) (x : Slip) {g : Fin 5}
    (h : s.circuit[groupCircuit g].mode = .electronic) : decideOne s target x g =
      { x with
        group := put x.group g (groupDecision s target x g).group
        reapply := mapAll x.reapply fun c v =>
          if groupOf c = g then if (groupMembers x s.wheel g).contains c then (groupDecision s target x g).reapply c else 0
          else v
        fault := mapAll x.fault fun c f => f || ((groupDecision s target x g).fault && decide (groupOf c = g)) } := by
  unfold decideOne
  rw [h]
  rfl

/-- The decision of a group leaves every other group as it stands. -/
theorem decideOne_same (s : State) (target : Vector Nat 6) (x : Slip) {g k : Fin 5} (hne : g ≠ k) :
    SameGroup k x (decideOne s target x g) := by
  by_cases h : s.circuit[groupCircuit g].mode = .electronic
  · rw [decideOne_electronic target x h]
    refine ⟨put_other _ _ _ _ hne, rfl, rfl, fun c hc => ?_, fun c hc => ?_⟩
    · exact (mapAll_get x.reapply _ c).trans (if_neg fun hg => hne (hg.symm.trans hc))
    · refine (mapAll_get x.fault _ c).trans ?_
      rw [decide_eq_false fun hg => hne (hg.symm.trans hc), Bool.and_false, Bool.or_false]
      rfl
  · have hskip : decideOne s target x g = x := by
      unfold decideOne
      exact if_pos (by simpa using h)
    rw [hskip]
    exact .refl k x

theorem foldl_decideOne_same (s : State) (target : Vector Nat 6) {k : Fin 5} {l : List (Fin 5)} (hl : k ∉ l) (x : Slip) :
    SameGroup k x (l.foldl (decideOne s target) x) := by
  induction l generalizing x with
  | nil => exact .refl k x
  | cons g l ih =>
    have hg : g ≠ k := fun h => hl (h ▸ List.mem_cons_self)
    exact (decideOne_same s target x hg).trans (ih (fun h => hl (List.mem_cons_of_mem _ h)) _)

/-- The decision of one group among the five: what stands before it and after it agrees on the group. -/
theorem slipPeriod_split (s : State) (target : Vector Nat 6) (k : Fin 5) :
    ∃ x, SameGroup k (rejoin s.slip s.wheel) x ∧ SameGroup k (decideOne s target x k) (slipPeriod s target) := by
  obtain ⟨l, r, hsplit⟩ := List.append_of_mem (List.mem_finRange k)
  have hnodup : (l ++ k :: r).Nodup := hsplit ▸ List.nodup_finRange 5
  have hl : k ∉ l := fun h => (List.nodup_append.1 hnodup).2.2 k h k List.mem_cons_self rfl
  have hr : k ∉ r := (List.nodup_cons.1 (List.nodup_append.1 hnodup).2.1).1
  refine ⟨l.foldl (decideOne s target) (rejoin s.slip s.wheel), foldl_decideOne_same s target hl _, ?_⟩
  unfold slipPeriod
  rw [hsplit, List.foldl_append, List.foldl_cons]
  exact foldl_decideOne_same s target hr _

/-- With its channels joined, neither suspect nor faulted, a group decides over all of them (R101, R108). -/
theorem groupMembers_all {x : Slip} {w : Vector Wheel 6} {k : Fin 5}
    (hjoined : k = 4 → x.tlJoined = true ∧ x.trJoined = true)
    (hgood : ∀ c ∈ groupChannels k, x.fault[c] = false ∧ w[c].suspect = false) :
    groupMembers x w k = groupChannels k := by
  refine List.filter_eq_self.2 fun c hc => ?_
  obtain ⟨hfault, hsuspect⟩ := hgood c hc
  have hgroup := (mem_groupChannels k c).1 hc
  have hj : x.joined c = true := by
    unfold Slip.joined
    split
    · next h4 => exact (hjoined (by rw [← hgroup, h4]; rfl)).1
    · split
      · next h5 => exact (hjoined (by rw [← hgroup, h5]; rfl)).2
      · rfl
  rw [hj, hfault, hsuspect]
  rfl

/-- The decision of a group of slip control reaches the record of the period: its group record, its reapply pressures and
its faults (R101 to R107). -/
theorem slipPeriod_decides {s : State} (target : Vector Nat 6) {k : Fin 5}
    (hmode : s.circuit[groupCircuit k].mode = .electronic)
    (hjoined : k = 4 → s.slip.tlJoined = true ∧ s.slip.trJoined = true)
    (hgood : ∀ c ∈ groupChannels k, s.slip.fault[c] = false ∧ s.wheel[c].suspect = false) :
    ∃ (rc : Channel → Nat) (d : SlipDecision), (∀ c ∈ groupChannels k, rc c = s.slip.reapply[c]) ∧
      d = decideGroup s.settings.params s.slip.group[k] (groupChannels k) (fun c => slipOf s.vref s.wheel[c].speed)
        (fun c => target[c]) (fun c => measured s.sampling c) rc ∧
      (slipPeriod s target).group[k] = d.group ∧
      (∀ c ∈ groupChannels k, (slipPeriod s target).reapply[c] = d.reapply c) ∧
      (d.fault = true → ∀ c ∈ groupChannels k, (slipPeriod s target).fault[c] = true) := by
  obtain ⟨x, hbefore, hafter⟩ := slipPeriod_split s target k
  have hmembers : groupMembers x s.wheel k = groupChannels k := by
    refine groupMembers_all (fun hk => ?_) fun c hc => ?_
    · obtain ⟨htl, htr⟩ := hjoined hk
      rw [hbefore.tl, hbefore.tr]
      unfold rejoin
      rw [htl, htr]
      exact ⟨rfl, rfl⟩
    · obtain ⟨hfault, hsuspect⟩ := hgood c hc
      exact ⟨(hbefore.fault c ((mem_groupChannels k c).1 hc)).trans hfault, hsuspect⟩
  have hdecision : groupDecision s target x k =
      decideGroup s.settings.params s.slip.group[k] (groupChannels k) (fun c => slipOf s.vref s.wheel[c].speed)
        (fun c => target[c]) (fun c => measured s.sampling c) (fun c => x.reapply[c]) := by
    have hgroup : x.group[k] = s.slip.group[k] := hbefore.group
    unfold groupDecision
    rw [hmembers, hgroup]
  rw [decideOne_electronic target x hmode] at hafter
  refine ⟨fun c => x.reapply[c], _, fun c hc => hbefore.reapply c ((mem_groupChannels k c).1 hc), hdecision,
    hafter.group.trans (put_same _ _ _), fun c hc => ?_, fun hf c hc => ?_⟩
  · have hg := (mem_groupChannels k c).1 hc
    refine (hafter.reapply c hg).trans ((mapAll_get x.reapply _ c).trans ?_)
    rw [if_pos hg, hmembers, if_pos (List.contains_iff_mem.2 hc)]
  · have hg := (mem_groupChannels k c).1 hc
    refine (hafter.fault c hg).trans ((mapAll_get x.fault _ c).trans ?_)
    rw [hf, decide_eq_true hg, Bool.and_self, Bool.or_true]

/-! ### Slip control at the period (R98, R101 to R107) -/

theorem slipOf_eq (vref v : Nat) : slipOf vref v = if v < vref ∧ 50 ≤ vref then (vref - v) * 100 / vref else 0 := by
  unfold slipOf
  simp only [Bool.and_eq_true, decide_eq_true_eq]

/-- The phases of a group over all its channels at an allocation period, by the slips and the targets of that period. -/
theorem slipPeriod_phases {s : State} {k : Fin 5} {target : Vector Nat 6} {slip r : Channel → Nat}
    (hmode : s.circuit[groupCircuit k].mode = .electronic)
    (hjoined : k = 4 → s.slip.tlJoined = true ∧ s.slip.trJoined = true)
    (hgood : ∀ c ∈ groupChannels k, s.slip.fault[c] = false ∧ s.wheel[c].suspect = false)
    (hslip : ∀ c : Channel, slip c = (if s.wheel[c].speed < s.vref ∧ 50 ≤ s.vref then
      (s.vref - s.wheel[c].speed) * 100 / s.vref else 0))
    (hr : ∀ c : Channel, r c = min target[c]
      (if s.slip.group[k].phase = .hold then measured s.sampling c
        else s.slip.reapply[c] + s.settings.params.reapplyStep)) :
    ((∀ c ∈ groupChannels k, target[c] = 0) → (slipPeriod s target).group[k] = followGroup) ∧
    ((∃ c ∈ groupChannels k, 0 < target[c]) →
      ((∃ c ∈ groupChannels k, s.settings.params.slipOn ≤ slip c ∧ 0 < target[c]) → s.slip.group[k].phase ≠ .dump →
        (slipPeriod s target).group[k] = { phase := .dump, dump := 1, hold := 0 }) ∧
      (s.slip.group[k].phase = .dump →
        ((∀ c ∈ groupChannels k, slip c < s.settings.params.slipOff) →
          (slipPeriod s target).group[k] = { phase := .hold, dump := 0, hold := 1 }) ∧
        ((∃ c ∈ groupChannels k, s.settings.params.slipOff ≤ slip c) →
          (s.slip.group[k].dump < 50 →
            (slipPeriod s target).group[k] = { phase := .dump, dump := s.slip.group[k].dump + 1, hold := 0 }) ∧
          (50 ≤ s.slip.group[k].dump → (slipPeriod s target).group[k] = followGroup ∧
            ∀ c ∈ groupChannels k, (slipPeriod s target).fault[c] = true))) ∧
      ((∀ c ∈ groupChannels k, slip c < s.settings.params.slipOn ∨ target[c] = 0) →
        (s.slip.group[k].phase = .follow → (slipPeriod s target).group[k] = followGroup) ∧
        (s.slip.group[k].phase = .hold → s.slip.group[k].hold < 3 →
          (slipPeriod s target).group[k] = { phase := .hold, dump := 0, hold := s.slip.group[k].hold + 1 }) ∧
        (s.slip.group[k].phase = .hold ∧ 3 ≤ s.slip.group[k].hold ∨ s.slip.group[k].phase = .reapply →
          ((∀ c ∈ groupChannels k, r c = target[c]) → (slipPeriod s target).group[k] = followGroup) ∧
          ((∃ c ∈ groupChannels k, r c ≠ target[c]) →
            (slipPeriod s target).group[k] = { phase := .reapply, dump := 0, hold := 0 } ∧
            ∀ c ∈ groupChannels k, (slipPeriod s target).reapply[c] = r c)))) ∧
    ((slipPeriod s target).group[k].phase ≠ .reapply → ∀ c ∈ groupChannels k, (slipPeriod s target).reapply[c] = 0) := by
  obtain ⟨rc, d, hrc, hd, hgroup, hreapply, hfault⟩ := slipPeriod_decides target hmode hjoined hgood
  have hslips : (fun c => slipOf s.vref s.wheel[c].speed) = slip := funext fun c => (slipOf_eq _ _).trans (hslip c).symm
  have hpressure (c : Channel) (hc : c ∈ groupChannels k) :
      reapplyPressure s.settings.params s.slip.group[k] (fun c => target[c]) (fun c => measured s.sampling c) rc c = r c := by
    unfold reapplyPressure
    rw [hr, hrc c hc]
  rw [hslips] at hd
  rw [hgroup]
  refine ⟨fun h => ?_, fun hpos => ⟨fun h hp => ?_, fun hp => ⟨fun h => ?_, fun h => ⟨fun hlt => ?_, fun hge => ?_⟩⟩,
    fun h => ⟨fun hp => ?_, fun hp hlt => ?_, fun hp => ⟨fun hmet => ?_, fun hopen => ?_⟩⟩⟩, fun hp c hc => ?_⟩
  · rw [hd, decideGroup_relieved h]; rfl
  · rw [hd, decideGroup_dumps h hp]; rfl
  · rw [hd, decideGroup_holds hpos hp h]; rfl
  · rw [hd, decideGroup_dumps_on hpos hp h hlt]; rfl
  · rw [decideGroup_faults hpos hp h hge] at hd
    exact ⟨by rw [hd], hfault (by rw [hd])⟩
  · rw [hd, decideGroup_follows hpos hp h]; rfl
  · rw [hd, decideGroup_holds_on hpos hp h hlt]; rfl
  · rw [hd, decideGroup_reapplies hpos hp h, reapplyDecision_met fun c hc => (hpressure c hc).trans (hmet c hc)]; rfl
  · obtain ⟨c, hc, hne⟩ := hopen
    rw [decideGroup_reapplies hpos hp h, reapplyDecision_open ⟨c, hc, by rw [hpressure c hc]; exact hne⟩] at hd
    exact ⟨by rw [hd], fun c hc => (hreapply c hc).trans (by rw [hd]; exact hpressure c hc)⟩
  · rw [hreapply c hc, hd]
    exact decideGroup_pressure c (by rw [← hd]; exact hp)

/-- Settles O41: bounds, arbitration, commands and slip phases of an allocation period. -/
theorem allocationBounds : Obligations.AllocationBounds := by
  unfold Obligations.AllocationBounds
  refine ⟨fun s hdue hpmax => ?_, fun s hdue => ⟨_, exec_allocationPeriod_due hdue, fun c a d ha hd => ?_,
    fun c x p hmode hp => allocate_commands s c x p hmode hp,
    fun k slip r hmode hjoined hgood hslip hr => slipPeriod_phases hmode hjoined hgood hslip hr⟩,
    fun e p c vref x hx => ⟨Entry.contributes_iff e c vref, Entry.pressure_outside p, fun h hc => ?_, fun h hc => ?_⟩⟩
  · refine ⟨_, exec_allocationPeriod_due hdue, rfl, rfl, rfl, fun i => advanced_vacant, fun i e => advanced_entry,
      fun c => ?_⟩
    obtain ⟨hmax, hdown, hsupply, hup⟩ := allocate_bounds s c (hpmax c)
    refine ⟨hmax, hdown, hsupply, hup, fun hoff => ?_, fun hinvalid hphase => ?_, ?_⟩
    · rw [allocate_buffer]; exact commandOf_off _ _ hoff
    · rw [allocate_buffer]; exact commandOf_invalid _ hinvalid hphase
    · rw [allocate_chan]
  · obtain ⟨hlimited, htaken, hrises, hfalls⟩ := allocate_slews s c a d ha hd
    exact ⟨fun i e he => by rw [ha]; exact pressure_le_arbitrated _ c s.vref he,
      by rw [ha]; exact arbitrated_attained _ _ c s.vref, hlimited, htaken, hrises, hfalls⟩
  · rw [hx]; exact Entry.pressure_hold p h hc
  · rw [hx]; exact Entry.pressure_decel p h hc

end Sys2Proof.Machine
end

section
/-!
PROOFS. The bounds of the queues over every operation of the block, said once: `QueuesKept s t` is what each operation, and so
each command and each step, does to them, and the obligation on them (R42, R43, R181, R191).
-/

namespace Sys2Proof.Machine

open Sys2Proof.Safety

-- One theorem after another: elaborated all at once they need more thread stacks than the check's memory limit grants.
set_option Elab.async false

/-- The bounds of the queues that hold of the second state where they hold of the first (R42, R181, R190, R193). -/
structure QueuesKept (s t : State) : Prop where
  answers : s.port.answers.length ≤ 8 → t.port.answers.length ≤ 8
  excerpts : s.port.excerpts.length ≤ 2 → t.port.excerpts.length ≤ 2
  waiting : s.excerpt.waiting.length ≤ 2 → t.excerpt.waiting.length ≤ 2
  cycles : s.coord.springCycles.length ≤ 16 → t.coord.springCycles.length ≤ 16

theorem QueuesKept.bounded {s t : State} (h : QueuesKept s t) (hs : queuesBounded s) : queuesBounded t := by
  obtain ⟨hanswers, hexcerpts, hwaiting, hcycles⟩ := hs
  exact ⟨h.answers hanswers, h.excerpts hexcerpts, h.waiting hwaiting, h.cycles hcycles⟩

theorem QueuesKept.refl (s : State) : QueuesKept s s := ⟨id, id, id, id⟩

theorem QueuesKept.after {s t u : State} (g : QueuesKept t u) (h : QueuesKept s t) : QueuesKept s u :=
  ⟨g.answers ∘ h.answers, g.excerpts ∘ h.excerpts, g.waiting ∘ h.waiting, g.cycles ∘ h.cycles⟩

/-- A change of other blocks. -/
theorem QueuesKept.of_same {s t : State} (hp : t.port = s.port := by simp) (hx : t.excerpt = s.excerpt := by simp)
    (hk : t.coord.springCycles = s.coord.springCycles := by simp) : QueuesKept s t :=
  ⟨fun h => hp ▸ h, fun h => hp ▸ h, fun h => hx ▸ h, fun h => hk ▸ h⟩

/-- A change of other blocks after an operation. -/
theorem QueuesKept.same {s t u : State} (h : QueuesKept s t) (hp : u.port = t.port := by simp)
    (hx : u.excerpt = t.excerpt := by simp) (hk : u.coord.springCycles = t.coord.springCycles := by simp) :
    QueuesKept s u :=
  (QueuesKept.of_same hp hx hk).after h

/-- A change of the port that leaves the answers and the excerpt frames at most as many as they are. -/
theorem QueuesKept.of_port {s t : State} (ha : t.port.answers.length ≤ s.port.answers.length)
    (he : t.port.excerpts.length ≤ s.port.excerpts.length) (hx : t.excerpt = s.excerpt := by simp)
    (hk : t.coord.springCycles = s.coord.springCycles := by simp) : QueuesKept s t :=
  ⟨ha.trans, he.trans, fun h => hx ▸ h, fun h => hk ▸ h⟩

theorem QueuesKept.ite {s t u : State} {b : Prop} [Decidable b] (h : QueuesKept s t) (g : QueuesKept s u) :
    QueuesKept s (if b then t else u) := by
  split
  · exact h
  · exact g

theorem QueuesKept.when {s t : State} {b : Prop} [Decidable b] (h : QueuesKept s t) :
    QueuesKept s (if b then t else s) := .ite h (.refl s)

/-! ### Answers and status frames -/

/-- A formed answer joins a queue with room or is dropped (R42). -/
theorem queuesKept_push {s t : State} {f : Frame} {restart : Bool} (hp : t.port = s.port.push f restart)
    (hx : t.excerpt = s.excerpt := by simp) (hk : t.coord.springCycles = s.coord.springCycles := by simp) :
    QueuesKept s t where
  answers h := hp ▸ s.port.push_bound f restart h
  excerpts h := by rw [hp]; exact h
  waiting h := hx ▸ h
  cycles h := hk ▸ h

theorem queuesKept_answer (s : State) (a : Address) (k : Kind) (x : Byte) (o : AnswerCode) (u v w : Byte) :
    QueuesKept s (answer s a k x o u v w) := queuesKept_push (answer_port s a k x o u v w)

theorem queuesKept_endExercise (s : State) (w : EndReason) : QueuesKept s (endExercise s w) := by
  unfold endExercise
  split
  · exact .refl s
  · dsimp only
    split
    · exact (queuesKept_answer _ _ _ _ _ _ _ _).after (.of_same rfl rfl rfl)
    · exact .of_same rfl rfl rfl

theorem queuesKept_formStatus (s : State) : QueuesKept s (formStatus s) := .of_port le_rfl le_rfl

theorem queuesKept_evalOverride (s : State) : QueuesKept s (evalOverride s) := .of_same

/-! ### The park valve and the home slots -/

/-- A release attempt joins the spring-cycle list (R181). -/
theorem queuesKept_evaluateRelease (s : State) : QueuesKept s (evaluateRelease s) := by
  rcases evaluateRelease_cases s with ⟨-, h⟩ | ⟨-, -, h⟩ | ⟨-, -, h⟩ <;> rw [h]
  · exact .refl s
  · exact ⟨id, id, id, joinCycles_bound _ _⟩
  · exact .of_same rfl rfl rfl

theorem queuesKept_reevaluateRelease (s : State) : QueuesKept s (reevaluateRelease s) :=
  (queuesKept_evaluateRelease s).when

theorem queuesKept_parkCeases (s : State) : QueuesKept s (parkCeases s) :=
  .ite ((queuesKept_evaluateRelease _).after (.of_same rfl rfl rfl)) (.of_same rfl rfl rfl)

theorem queuesKept_putTable (s : State) (t : Table) : QueuesKept s (putTable s t) :=
  .ite (.of_same rfl rfl rfl) (.ite ((queuesKept_parkCeases _).after (.of_same rfl rfl rfl)) (.of_same rfl rfl rfl))

theorem queuesKept_postSlot4 (s : State) : QueuesKept s (postSlot4 s) := queuesKept_putTable s _

theorem queuesKept_postSwitch (s : State) : QueuesKept s (postSwitch s) := queuesKept_putTable s _

theorem queuesKept_releaseSwitch (s : State) : QueuesKept s (releaseSwitch s) := queuesKept_putTable s _

theorem queuesKept_handover (s : State) : QueuesKept s (handover s) := .of_same

theorem queuesKept_startWindow (s : State) : QueuesKept s (startWindow s) := .of_same rfl rfl rfl

/-! ### States of the coordinator -/

theorem queuesKept_leaveAutoPark (s : State) (b : Prop) [Decidable b] :
    QueuesKept s (if b then endExercise s .leftAutoPark else s) := (queuesKept_endExercise s _).when

theorem queuesKept_setStandstill (s : State) (st : Standstill) : QueuesKept s (setStandstill s st) :=
  (queuesKept_leaveAutoPark s _).same rfl rfl rfl

theorem queuesKept_promote (s : State) : QueuesKept s (promote s) :=
  (queuesKept_handover _).after ((queuesKept_postSlot4 _).after (queuesKept_setStandstill s _))

theorem queuesKept_enterRun (s : State) : QueuesKept s (enterRun s) := (queuesKept_leaveAutoPark s _).same rfl rfl rfl

theorem queuesKept_postSlot3 (s : State) (v : Nat) : QueuesKept s (postSlot3 s v) := .of_same

theorem queuesKept_enterStopHold (s : State) : QueuesKept s (enterStopHold s) :=
  (queuesKept_startWindow _).after
    (((queuesKept_setStandstill _ .stopHold).after (queuesKept_postSlot3 s (drivePressure s))).same rfl rfl rfl)

theorem queuesKept_evalStopHold (s : State) : QueuesKept s (evalStopHold s) := (queuesKept_enterStopHold s).when

theorem queuesKept_evalReturn (s : State) : QueuesKept s (evalReturn s) :=
  QueuesKept.when ((queuesKept_enterRun _).after .of_same)

theorem queuesKept_considerPromotion (s : State) : QueuesKept s (considerPromotion s) :=
  .ite (queuesKept_promote s) (.of_same rfl rfl rfl)

theorem queuesKept_driveOff (s : State) : QueuesKept s (driveOff s) :=
  (queuesKept_putTable _ _).after (((queuesKept_enterRun _).after (.of_same (t := releaseSlot3 s))).same rfl rfl rfl)

theorem queuesKept_evalDriveOff (s : State) : QueuesKept s (evalDriveOff s) := (queuesKept_driveOff s).when

theorem queuesKept_undoDriveOff (s : State) : QueuesKept s (undoDriveOff s) :=
  (queuesKept_handover _).after (((queuesKept_startWindow _).after ((queuesKept_postSlot4 _).after
    (queuesKept_setStandstill s .autoPark))).same rfl rfl rfl)

theorem queuesKept_creepFound (s : State) : QueuesKept s (creepFound s) := by
  refine (queuesKept_startWindow _).after ?_
  split
  · exact .ite .of_same (queuesKept_promote s)
  · exact .ite .of_same .of_same
  · exact (queuesKept_setStandstill _ _).after (queuesKept_postSlot3 s _)
  all_goals exact .refl s

theorem queuesKept_creepEdge (s : State) (c : Channel) : QueuesKept s (creepEdge s c) :=
  .ite (.refl s) (.ite (queuesKept_creepFound s) (.of_same rfl rfl rfl))

theorem queuesKept_rollingEdge (s : State) (c : Channel) : QueuesKept s (rollingEdge s c) :=
  .ite ((queuesKept_formStatus _).after (.of_same rfl rfl rfl)) (.of_same rfl rfl rfl)

theorem queuesKept_coordinatorEdge (s : State) (c : Channel) : QueuesKept s (coordinatorEdge s c) := by
  unfold coordinatorEdge
  split
  case h_4 => exact queuesKept_rollingEdge s c
  case h_5 | h_6 => exact .refl s
  all_goals exact queuesKept_creepEdge s c

theorem queuesKept_quietExpired (s : State) : QueuesKept s (quietExpired s) :=
  .ite ((queuesKept_startWindow _).after ((queuesKept_handover _).after (queuesKept_setStandstill s _)))
    (queuesKept_startWindow s)

theorem queuesKept_coordinatorModes (s : State) (left : Bool) : QueuesKept s (coordinatorModes s left) :=
  .ite (queuesKept_promote s) (queuesKept_evalStopHold s)

theorem queuesKept_coordinatorScan (s : State) : QueuesKept s (coordinatorScan s) := by
  unfold coordinatorScan
  split
  · exact queuesKept_evalStopHold s
  · exact queuesKept_evalReturn s
  · exact queuesKept_evalDriveOff s
  · exact queuesKept_evalDriveOff s
  all_goals exact .refl s

theorem queuesKept_coordinatorDrive (s : State) : QueuesKept s (coordinatorDrive s) :=
  .ite ((queuesKept_evalDriveOff _).after (queuesKept_evalReturn s)) (queuesKept_evalStopHold s)

/-! ### Circuit modes and trips -/

theorem queuesKept_applyModes (s : State) (mode : CircuitId → Mode) : QueuesKept s (applyModes s mode) := by
  have hwritten : QueuesKept s (writeModes s mode) := .of_same
  have hended : QueuesKept s (if exerciseLeft s fun k => goesOut s.circuit[k].mode (mode k) then
      endExercise (writeModes s mode) .circuitFallback else writeModes s mode) :=
    .ite ((queuesKept_endExercise _ _).after hwritten) hwritten
  exact .ite (.refl s) ((queuesKept_coordinatorModes _ _).after
    (.ite ((queuesKept_reevaluateRelease _).after hended) hended))

theorem queuesKept_settleModes (s : State) : QueuesKept s (settleModes s) := queuesKept_applyModes s _

theorem queuesKept_enterTrip (s : State) (x : TripSet) : QueuesKept s (enterTrip s x) :=
  (queuesKept_endExercise _ _).after (.of_same rfl rfl rfl)

theorem queuesKept_rise (s : State) (x : TripSet) : QueuesKept s (rise s x) :=
  .ite (.refl s) (.ite (.of_same rfl rfl rfl) (queuesKept_enterTrip s x))

theorem queuesKept_setActive (s : State) (x : TripSet) : QueuesKept s (setActive s x) :=
  (queuesKept_rise _ _).after (.of_same rfl rfl rfl)

theorem queuesKept_clearTrip (s : State) : QueuesKept s (clearTrip s) :=
  (queuesKept_settleModes _).after (.of_same rfl rfl rfl)

/-! ### Securing -/

theorem queuesKept_completeSecuring (s : State) : QueuesKept s (completeSecuring s) := by
  unfold completeSecuring
  exact (queuesKept_applyModes _ _).after ((queuesKept_setStandstill s .secured).same rfl rfl rfl)

theorem queuesKept_beginSecuring (s : State) : QueuesKept s (beginSecuring s) := by
  have hslot3 := (queuesKept_postSlot3 _ s.settings.params.holdMax).after ((queuesKept_leaveAutoPark s
    (s.coord.state = .autoPark)).same (u := { (if s.coord.state = .autoPark then endExercise s .leftAutoPark else s) with
      coord := (if s.coord.state = .autoPark then endExercise s .leftAutoPark else s).coord.secure
      doorOpenMoving := false }) rfl rfl rfl)
  exact .ite ((queuesKept_postSlot4 _).after hslot3) hslot3

theorem queuesKept_enterSecuring (s : State) : QueuesKept s (enterSecuring s) :=
  .ite ((queuesKept_completeSecuring _).after (queuesKept_beginSecuring s)) (queuesKept_beginSecuring s)

theorem queuesKept_reportApplied (s : State) : QueuesKept s (reportApplied s) :=
  .ite (queuesKept_completeSecuring s) (queuesKept_handover s)

theorem queuesKept_matchDoor (s : State) : QueuesKept s (matchDoor s) := by
  rw [matchDoor_eq]; exact .of_same rfl rfl rfl

theorem queuesKept_matchSwitch (s : State) : QueuesKept s (matchSwitch s) :=
  .ite (queuesKept_postSwitch s).when (queuesKept_releaseSwitch s).when

theorem queuesKept_returnFromSecuring (s : State) : QueuesKept s (returnFromSecuring s) :=
  (queuesKept_handover _).after ((queuesKept_startWindow _).after (((queuesKept_matchSwitch _).after
    ((queuesKept_matchDoor _).after (queuesKept_setStandstill s _))).same rfl rfl rfl))

/-! ### Speeds -/

theorem settle_springCycles (k : Coordinator) (expiry old new : Nat) :
    (k.settle expiry old new).springCycles = k.springCycles := by
  unfold Coordinator.settle; split <;> rfl

theorem queuesKept_coordinatorSpeed (s : State) (old : Nat) : QueuesKept s (coordinatorSpeed s old) :=
  .ite (queuesKept_enterSecuring s)
    ((queuesKept_evalDriveOff _).after (.of_same rfl rfl (settle_springCycles _ _ _ _)))

theorem queuesKept_exerciseSpeed (s : State) : QueuesKept s (exerciseSpeed s) := (queuesKept_endExercise s _).when

theorem queuesKept_setReference (s : State) (v : Nat) : QueuesKept s (setReference s v) :=
  .ite (.refl s) ((queuesKept_coordinatorSpeed _ _).after
    (((queuesKept_exerciseSpeed (evalOverride (evalDoorMoving { s with vref := v }))).after
      (.of_same (s := s) rfl rfl rfl)).same rfl rfl rfl))

theorem queuesKept_setWheel (s : State) (c : Channel) (w : Wheel) : QueuesKept s (setWheel s c w) :=
  ((queuesKept_setReference { s with wheel := put s.wheel c w } _).after (.of_same (s := s) rfl rfl rfl)).same
    rfl rfl rfl

theorem queuesKept_toothEdge (s : State) (c : Channel) : QueuesKept s (toothEdge s c) :=
  (queuesKept_coordinatorEdge _ c).after (queuesKept_setWheel s c _)

theorem queuesKept_markSuspect (s : State) (c : Channel) : QueuesKept s (markSuspect s c) :=
  (queuesKept_setWheel _ _ _).after (.of_same rfl rfl rfl)

/-! ### Conversions -/

theorem queuesKept_driveScanComplete (s : State) (g : Sampling) : QueuesKept s (driveScanComplete s g) :=
  (queuesKept_setActive _ _).after (.of_same rfl rfl rfl)

theorem queuesKept_advanceScan (s : State) (r : Fin 16) : QueuesKept s (advanceScan s r).1 := by
  unfold advanceScan
  split
  · exact .of_same rfl rfl rfl
  · dsimp only
    split
    · exact .of_same rfl rfl rfl
    · exact (queuesKept_driveScanComplete _ _).after (.of_same rfl rfl rfl)

theorem queuesKept_confirmApplied (s : State) : QueuesKept s (confirmApplied s) :=
  have hreported := (queuesKept_reportApplied { s with park :=
    { s.park with state := .applied, step := none, confirmTimer := none, pulses := 0, fault := false } }).after
      (.of_same (s := s) rfl rfl rfl)
  .ite hreported ((queuesKept_evaluateRelease _).after hreported)

theorem queuesKept_parkConversion (s : State) (r : ConvResult) : QueuesKept s (parkConversion s r) := by
  unfold parkConversion
  split
  · exact .refl s
  · exact .ite (.refl s) (.ite (queuesKept_confirmApplied s) (QueuesKept.when (.of_same rfl rfl rfl)))

theorem queuesKept_deliver (s : State) (input : Fin 12) (r : ConvResult) : QueuesKept s (deliver s input r) := by
  unfold deliver
  split
  · exact (queuesKept_setActive _ _).after (.of_same rfl rfl rfl)
  · exact .ite (queuesKept_reevaluateRelease s) (queuesKept_parkConversion s r).when

theorem queuesKept_watchEvent (s : State) (w : Bool) (input : Fin 12) (r : ConvResult) :
    QueuesKept s (watchEvent s w input r) :=
  .ite (.refl s) (.ite (.of_same rfl rfl rfl) (queuesKept_formStatus s))

theorem queuesKept_takeConversion (s : State) (record : Fin 16) (r : ConvResult) :
    QueuesKept s (takeConversion s record r) := by
  have hdelivered (g : Sampling) (w : Bool) (input : Fin 12) :
      QueuesKept s (watchEvent (deliver { s with sampling := g } input r) w input r) :=
    (queuesKept_watchEvent _ _ _ _).after ((queuesKept_deliver _ _ _).after (.of_same rfl rfl rfl))
  have hscanned := fun g w input =>
    (queuesKept_settleModes _).after ((queuesKept_advanceScan _ record).after (hdelivered g w input))
  unfold takeConversion
  dsimp only
  split
  · exact (queuesKept_settleModes _).after (hdelivered _ _ _)
  · split
    · exact (queuesKept_coordinatorScan _).after ((queuesKept_evalOverride _).after (hscanned _ _ _))
    · exact hscanned _ _ _

theorem queuesKept_conversionEvent (s : State) (raw : BitVec 12) : QueuesKept s (conversionEvent s raw) := by
  unfold conversionEvent
  split
  · exact (queuesKept_takeConversion s _ _).when
  · exact .refl s

/-! ### Cold start and wake -/

/-- The queues are empty at cold start (R42, R166, R191). -/
theorem queuesKept_coldBlocks (s : State) : QueuesKept s (coldBlocks s) where
  answers _ := Nat.zero_le _
  excerpts _ := Nat.zero_le _
  waiting _ := Nat.zero_le _
  cycles _ := Nat.zero_le _

theorem queuesKept_coldStart (s : State) : QueuesKept s (coldStart s) := by
  have hactive := (queuesKept_setActive (coldEntries (coldBlocks s)) { (coldEntries (coldBlocks s)).trip.active with
    cutLine := (coldEntries (coldBlocks s)).lines.cutOut }).after ((queuesKept_startWindow _).after
      ((queuesKept_postSlot4 _).after ((queuesKept_putTable _ _).after (queuesKept_coldBlocks s))))
  exact .ite hactive ((queuesKept_enterSecuring _).after hactive)

/-- Wake empties the queues of the port and of the excerpt engine; the spring cycles stand (R42, R188, R191). -/
theorem queuesKept_wakeBlocks (s : State) : QueuesKept s (wakeBlocks s) where
  answers _ := Nat.zero_le _
  excerpts _ := Nat.zero_le _
  waiting _ := Nat.zero_le _
  cycles := id

theorem queuesKept_wake (s : State) : QueuesKept s (wake s) :=
  (queuesKept_handover _).after ((queuesKept_startWindow _).after (((queuesKept_putTable _ _).after
    ((queuesKept_reevaluateRelease _).after (queuesKept_wakeBlocks s))).same rfl rfl rfl))

/-! ### Excerpts -/

/-- The engine fills the free places of the frame queue and no more (R193). -/
theorem queuesKept_fillExcerpts (s : State) : QueuesKept s (fillExcerpts s) := by
  unfold fillExcerpts
  split
  · exact .refl s
  · refine ⟨id, fun h => ?_, id, id⟩
    dsimp only
    rw [List.length_append, List.length_take]
    omega

theorem queuesKept_startEmission (s : State) (r : ExcerptRequest) : QueuesKept s (startEmission s r) :=
  (queuesKept_fillExcerpts _).after ⟨id, id, id, id⟩

theorem queuesKept_finishEmission (s : State) : QueuesKept s (finishEmission s) := by
  unfold finishEmission
  split
  · exact ⟨id, id, fun _ => Nat.zero_le _, id⟩
  · next r rest h =>
    refine (queuesKept_startEmission _ _).after ⟨id, id, fun hw => ?_, id⟩
    rw [h, List.length_cons] at hw
    exact (Nat.le_succ _).trans hw

/-- A request joins the waiting ones only where fewer than two wait (R190). -/
theorem queuesKept_admitExcerpt (s : State) (a : Address) (r : ExcerptRequest) : QueuesKept s (admitExcerpt s a r) := by
  unfold admitExcerpt
  split
  · exact (queuesKept_answer _ _ _ _ _ _ _ _).after (queuesKept_startEmission s r)
  · split
    · next hroom =>
      refine (queuesKept_answer _ _ _ _ _ _ _ _).after ⟨id, id, fun _ => ?_, id⟩
      rw [List.length_append]
      exact hroom
    · exact queuesKept_answer _ _ _ _ _ _ _ _

theorem queuesKept_excerptRequest (s : State) (a : Address) (preset start count : Byte) :
    QueuesKept s (excerptRequest s a preset start count) := by
  unfold excerptRequest
  split
  · exact queuesKept_answer _ _ _ _ _ _ _ _
  · exact queuesKept_admitExcerpt _ _ _

/-! ### Transmission -/

/-- What leaves its holder lengthens no queue (R43). -/
theorem leaveHolder_shorter (p : Port) (x : Transmission) :
    (p.leaveHolder x).answers.length ≤ p.answers.length ∧ (p.leaveHolder x).excerpts.length ≤ p.excerpts.length := by
  unfold Port.leaveHolder
  split
  · exact ⟨List.length_eraseP_le, le_rfl⟩
  · exact ⟨le_rfl, le_rfl⟩
  · exact ⟨le_rfl, by rw [List.length_drop]; omega⟩

theorem completed_shorter (p : Port) (x : Transmission) :
    (p.completed x).answers.length ≤ p.answers.length ∧ (p.completed x).excerpts.length ≤ p.excerpts.length := by
  unfold Port.completed
  split
  · exact leaveHolder_shorter p x
  · exact ⟨le_rfl, le_rfl⟩

theorem queuesKept_sent (s : State) (x : Transmission) : QueuesKept s (sent s x) := by
  have hport : QueuesKept s { s with port := s.port.completed x } :=
    .of_port (completed_shorter s.port x).1 (completed_shorter s.port x).2
  exact .ite ((queuesKept_coldStart _).after hport) (.ite
    (.ite ((queuesKept_finishEmission _).after hport) ((queuesKept_fillExcerpts _).after hport)) hport)

theorem queuesKept_goOffline (s : State) : QueuesKept s (goOffline s) where
  answers _ := Nat.zero_le _
  excerpts _ := Nat.zero_le _
  waiting _ := Nat.zero_le _
  cycles := id

theorem queuesKept_notSent (s : State) (x : Transmission) (why : TransmitFault) : QueuesKept s (notSent s x why) := by
  have hport : QueuesKept s { s with port := s.port.failed x why } := .of_port le_rfl le_rfl
  have hoffline := (queuesKept_goOffline _).after hport
  exact .ite hport (.ite ((queuesKept_coldStart _).after hoffline) hoffline)

/-! ### Requests -/

/-- Whatever next state an outcome holds keeps the bounds of the state before. -/
def QueuesKeptBy (s : State) (r : Result) : Prop := ∀ t, r = .next t → QueuesKept s t

theorem queuesKeptBy_next {s t : State} (h : QueuesKept s t) : QueuesKeptBy s (.next t) := by
  intro u hu; cases hu; exact h

theorem queuesKeptBy_refused (s : State) (r : Refusal) : QueuesKeptBy s (.refused r) := by
  intro u hu; cases hu

/-- The common path of requests keeps what the act of an ENROLLED sender keeps (R33, R35, R45). -/
theorem queuesKeptBy_request {s absent : State} {a : Address} {act : State → Result} (habs : QueuesKept s absent)
    (hact : ∀ t, QueuesKeptBy t (act t)) : QueuesKeptBy s (request s a absent act) := by
  unfold request
  split
  · exact queuesKeptBy_next (.refl s)
  · split
    · exact queuesKeptBy_next habs
    · exact queuesKeptBy_next (.refl s)
    · exact fun u hu => (hact _ u hu).after .of_same

theorem queuesKept_takeReply (s : State) (a : Address) (k : Kind) (cb : Byte) (r : TableReply) :
    QueuesKept s (takeReply s a k cb r) := (queuesKept_answer _ _ _ _ _ _ _ _).after (queuesKept_putTable s _)

theorem queuesKeptBy_postRequest (s : State) (a : Address) (cb sb life opts gate : Byte) (v : BitVec 16) :
    QueuesKeptBy s (postRequest s a cb sb v life opts gate) := by
  unfold postRequest
  split
  · exact queuesKeptBy_next (queuesKept_answer _ _ _ _ _ _ _ _)
  · unfold postAtTable
    split
    · intro u hu; cases hu
    · exact queuesKeptBy_next (queuesKept_takeReply _ _ _ _ _)

theorem queuesKept_refreshRequest (s : State) (a : Address) (cb : Byte) : QueuesKept s (refreshRequest s a cb) := by
  unfold refreshRequest
  split
  · exact queuesKept_answer _ _ _ _ _ _ _ _
  · exact queuesKept_takeReply _ _ _ _ _

theorem queuesKept_releaseRequest (s : State) (a : Address) (cb : Byte) : QueuesKept s (releaseRequest s a cb) := by
  unfold releaseRequest
  split
  · exact queuesKept_answer _ _ _ _ _ _ _ _
  · exact queuesKept_takeReply _ _ _ _ _

/-- A changed cycle window only takes entries out of the list (R181). -/
theorem queuesKept_pruneCycles (s : State) (old : Params) : QueuesKept s (pruneCycles s old) := by
  refine ⟨id, id, id, fun h => ?_⟩
  unfold pruneCycles
  dsimp only
  split
  · exact h
  · exact (List.length_filter_le _ _).trans h

theorem queuesKept_writeParam (s : State) (id v : Nat) : QueuesKept s (writeParam s id v) :=
  ((queuesKept_settleModes _).after (queuesKept_rise _ _)).after ((queuesKept_pruneCycles _ _).after
    (.of_same rfl rfl rfl))

theorem queuesKept_writeScanParam (s : State) (id v : Nat) : QueuesKept s (writeScanParam s id v) := by
  unfold writeScanParam
  split
  case h_3 => exact .ite (.of_same rfl rfl rfl) (.of_same rfl rfl rfl)
  all_goals exact .of_same rfl rfl rfl

theorem queuesKept_setParamRequest (s : State) (a : Address) (id : Byte) (v : BitVec 16) :
    QueuesKept s (setParamRequest s a id v) :=
  (queuesKept_answer _ _ _ _ _ _ _ _).after
    (QueuesKept.when (.ite (queuesKept_writeParam s _ _) (queuesKept_writeScanParam s _ _)))

theorem queuesKept_applyRoster (s : State) (x : Address) (state classes scope configure : Byte) :
    QueuesKept s (applyRoster s x state classes scope configure) := by
  unfold applyRoster
  exact (queuesKept_putTable _ _).after (.of_same rfl rfl rfl)

theorem queuesKept_setRosterRequest (s : State) (a : Address) (target state classes scope configure : Byte) :
    QueuesKept s (setRosterRequest s a target state classes scope configure) := by
  unfold setRosterRequest plainAnswer
  refine (queuesKept_answer _ _ _ _ _ _ _ _).after ?_
  split
  · split
    · exact queuesKept_applyRoster _ _ _ _ _ _
    · exact .refl s
  · exact .refl s

theorem queuesKept_storeRequest (s : State) (a : Address) : QueuesKept s (storeRequest s a) :=
  .ite (queuesKept_answer _ _ _ _ _ _ _ _) (.ite (queuesKept_answer _ _ _ _ _ _ _ _) .of_same)

theorem queuesKept_acceptRestart (s : State) (a : Address) : QueuesKept s (acceptRestart s a) :=
  queuesKept_push rfl rfl rfl

theorem queuesKept_restartRequest (s : State) (a : Address) : QueuesKept s (restartRequest s a) :=
  .ite (queuesKept_answer _ _ _ _ _ _ _ _) (.ite (queuesKept_answer _ _ _ _ _ _ _ _)
    (.ite (queuesKept_answer _ _ _ _ _ _ _ _)
      (.ite ((queuesKept_coldStart _).after (queuesKept_acceptRestart s a)) (queuesKept_acceptRestart s a))))

theorem queuesKept_clearTripRequest (s : State) (a : Address) : QueuesKept s (clearTripRequest s a) :=
  .ite (queuesKept_answer _ _ _ _ _ _ _ _) (.ite (queuesKept_answer _ _ _ _ _ _ _ _)
    (.ite (queuesKept_answer _ _ _ _ _ _ _ _)
      ((queuesKept_answer _ _ _ _ _ _ _ _).after (queuesKept_clearTrip s))))

theorem queuesKept_exerciseEngine (s : State) (a : Address) (c : Channel) (mode count : Byte) :
    QueuesKept s (exerciseEngine s a c mode count) := by
  unfold exerciseEngine
  split
  · exact queuesKept_answer _ _ _ _ _ _ _ _
  · exact .ite (queuesKept_answer _ _ _ _ _ _ _ _) (.ite (queuesKept_answer _ _ _ _ _ _ _ _)
      ((queuesKept_answer _ _ _ _ _ _ _ _).after (.of_same rfl rfl rfl)))

theorem queuesKept_exerciseRequest (s : State) (a : Address) (channel mode count : Byte) :
    QueuesKept s (exerciseRequest s a channel mode count) := by
  unfold exerciseRequest
  split
  · exact queuesKept_answer _ _ _ _ _ _ _ _
  · split
    · exact .ite (queuesKept_exerciseEngine _ _ _ _ _) (queuesKept_answer _ _ _ _ _ _ _ _)
    · exact queuesKept_answer _ _ _ _ _ _ _ _

theorem queuesKept_stopRequest (s : State) (a : Address) : QueuesKept s (stopRequest s a) :=
  .ite (queuesKept_answer _ _ _ _ _ _ _ _) (.ite (queuesKept_answer _ _ _ _ _ _ _ _)
    ((queuesKept_answer _ _ _ _ _ _ _ _).after (queuesKept_endExercise s _)))

/-! ### Lines and timers -/

theorem queuesKept_doorSettled (s : State) : QueuesKept s (doorSettled s) :=
  .ite (.of_same rfl rfl rfl) (.ite (.of_same rfl rfl rfl) (.of_same rfl rfl rfl))

theorem queuesKept_switchSettled (s : State) : QueuesKept s (switchSettled s) :=
  .ite (.of_same rfl rfl rfl) (.ite ((queuesKept_postSwitch _).after (.of_same rfl rfl rfl))
    ((queuesKept_releaseSwitch _).after (.of_same rfl rfl rfl)))

theorem queuesKept_driveChanged (s : State) (active : Bool) : QueuesKept s (driveChanged s active) :=
  (queuesKept_coordinatorDrive _).after ((queuesKept_evalOverride _).after (.of_same rfl rfl rfl))

theorem queuesKept_ignitionOn (s : State) : QueuesKept s (ignitionOn s) := by
  unfold ignitionOn
  split
  · exact queuesKept_returnFromSecuring s
  · exact queuesKept_wake s
  all_goals exact .of_same rfl rfl rfl

theorem queuesKept_ignitionOff (s : State) : QueuesKept s (ignitionOff s) :=
  .ite (.refl s) (.ite (queuesKept_enterSecuring s) (.of_same rfl rfl rfl))

theorem queuesKept_ignitionChanged (s : State) (active : Bool) : QueuesKept s (ignitionChanged s active) :=
  .ite ((queuesKept_ignitionOn _).after (.of_same rfl rfl rfl)) ((queuesKept_ignitionOff _).after (.of_same rfl rfl rfl))

theorem queuesKept_cutOutChanged (s : State) (active : Bool) : QueuesKept s (cutOutChanged s active) :=
  (queuesKept_settleModes _).after ((queuesKept_setActive _ _).after (.of_same rfl rfl rfl))

theorem queuesKept_modulationStart (s : State) : QueuesKept s (modulationStart s) :=
  .ite ((queuesKept_endExercise _ _).after (.of_same rfl rfl rfl)) (.of_same rfl rfl rfl)

theorem queuesKept_stallExpired (s : State) : QueuesKept s (stallExpired s) :=
  (queuesKept_settleModes _).after ((queuesKept_setActive _ _).after (.of_same rfl rfl rfl))

theorem queuesKept_retryExpired (s : State) : QueuesKept s (retryExpired s) :=
  .ite (.of_same rfl rfl rfl) (.ite (.of_same rfl rfl rfl) ((queuesKept_evaluateRelease _).after (.of_same rfl rfl rfl)))

theorem queuesKept_settleExpired (s : State) : QueuesKept s (settleExpired s) :=
  (queuesKept_evalStopHold _).after (.of_same rfl rfl rfl)

theorem queuesKept_dwellExpired (s : State) : QueuesKept s (dwellExpired s) :=
  .ite ((queuesKept_considerPromotion _).after (.of_same rfl rfl rfl)) (.of_same rfl rfl rfl)

theorem queuesKept_withheldExpired (s : State) : QueuesKept s (withheldExpired s) :=
  .ite (queuesKept_undoDriveOff s) (.of_same rfl rfl rfl)

/-- The oldest spring cycle leaves the list (R181). -/
theorem queuesKept_springCycleEntry {s t : State} (h : execSpringCycleEntryExpiry s = .next t) : QueuesKept s t := by
  cases h
  refine ⟨id, id, id, fun h => ?_⟩
  dsimp only
  split
  · rw [List.length_drop]; omega
  · exact h

/-! ### Commands and steps -/

/-- Every command keeps the bounds of the queues. -/
theorem queuesKeptBy_exec (c : Instr) (s : State) : QueuesKeptBy s (exec c s) := by
  cases c with
  | post a cb sb v life opts gate =>
    exact queuesKeptBy_request (queuesKept_answer _ _ _ _ _ _ _ _) fun t =>
      queuesKeptBy_postRequest t a cb sb life opts gate v
  | refresh a cb =>
    exact queuesKeptBy_request (queuesKept_answer _ _ _ _ _ _ _ _) fun t =>
      queuesKeptBy_next (queuesKept_refreshRequest t a cb)
  | release a cb =>
    exact queuesKeptBy_request (queuesKept_answer _ _ _ _ _ _ _ _) fun t =>
      queuesKeptBy_next (queuesKept_releaseRequest t a cb)
  | excerpt a preset start count =>
    exact queuesKeptBy_request (queuesKept_answer _ _ _ _ _ _ _ _) fun t =>
      queuesKeptBy_next (queuesKept_excerptRequest t a preset start count)
  | setParam a id v =>
    exact queuesKeptBy_request (queuesKept_answer _ _ _ _ _ _ _ _) fun t =>
      queuesKeptBy_next (queuesKept_setParamRequest t a id v)
  | setRoster a target state classes scope configure =>
    exact queuesKeptBy_request (queuesKept_answer _ _ _ _ _ _ _ _) fun t =>
      queuesKeptBy_next (queuesKept_setRosterRequest t a target state classes scope configure)
  | store a =>
    exact queuesKeptBy_request (queuesKept_answer _ _ _ _ _ _ _ _) fun t =>
      queuesKeptBy_next (queuesKept_storeRequest t a)
  | clearTrip a =>
    exact queuesKeptBy_request (queuesKept_answer _ _ _ _ _ _ _ _) fun t =>
      queuesKeptBy_next (queuesKept_clearTripRequest t a)
  | exercise a channel mode count =>
    exact queuesKeptBy_request (queuesKept_answer _ _ _ _ _ _ _ _) fun t =>
      queuesKeptBy_next (queuesKept_exerciseRequest t a channel mode count)
  | exerciseStop a =>
    exact queuesKeptBy_request (queuesKept_answer _ _ _ _ _ _ _ _) fun t =>
      queuesKeptBy_next (queuesKept_stopRequest t a)
  | restart a =>
    exact queuesKeptBy_request (queuesKept_answer _ _ _ _ _ _ _ _) fun t =>
      queuesKeptBy_next (queuesKept_restartRequest t a)
  | malformedFrame a code kind =>
    show QueuesKeptBy s (if _ then _ else _)
    split
    · exact queuesKeptBy_next (.of_same rfl rfl rfl)
    · exact queuesKeptBy_refused s _
  | ignoredFrame why =>
    show QueuesKeptBy s (if _ then _ else _)
    split
    · exact queuesKeptBy_next (.refl s)
    · exact queuesKeptBy_refused s _
  | transmitStart =>
    refine queuesKeptBy_next ?_
    split
    · exact .of_port le_rfl le_rfl
    · exact .refl s
  | transmitComplete =>
    refine queuesKeptBy_next ?_
    split
    · exact queuesKept_sent s _
    · exact .refl s
  | transmitFailure why =>
    refine queuesKeptBy_next ?_
    split
    · exact queuesKept_notSent s _ why
    · exact .refl s
  | recoveryWaitExpiry => exact queuesKeptBy_next (QueuesKept.when (.of_port le_rfl le_rfl))
  | coldStart => exact queuesKeptBy_next (queuesKept_coldStart s)
  | debouncedLineChange line active =>
    refine queuesKeptBy_next ?_
    cases line <;> exact .of_same rfl rfl rfl
  | debounceExpiry line =>
    refine queuesKeptBy_next ?_
    cases line with
    | doorOpen => exact (queuesKept_doorSettled s).when
    | parkSwitch => exact (queuesKept_switchSettled s).when
  | driveRequestChange active => exact queuesKeptBy_next (.ite (.refl s) (queuesKept_driveChanged s active))
  | ignitionChange active => exact queuesKeptBy_next (.ite (.refl s) (queuesKept_ignitionChanged s active))
  | brakeCutOutChange active => exact queuesKeptBy_next (.ite (.refl s) (queuesKept_cutOutChanged s active))
  | toothEdge c => exact queuesKeptBy_next (queuesKept_toothEdge s c)
  | toothTimeout c => exact queuesKeptBy_next (queuesKept_setWheel s c _).when
  | suspectSetExpiry c => exact queuesKeptBy_next (queuesKept_markSuspect s c).when
  | suspectClearExpiry c => exact queuesKeptBy_next (queuesKept_setWheel s c _).when
  | conversionComplete raw => exact queuesKeptBy_next (queuesKept_conversionEvent s raw)
  | allocationPeriod => exact queuesKeptBy_next (QueuesKept.of_same (t := allocate s)).when
  | holdOverride => exact queuesKeptBy_next (QueuesKept.of_same (t := fireOverride s)).when
  | modulationPeriodStart => exact queuesKeptBy_next (queuesKept_modulationStart s).when
  | retryTimerExpiry => exact queuesKeptBy_next (queuesKept_retryExpired s).when
  | stallTimerExpiry => exact queuesKeptBy_next (queuesKept_stallExpired s).when
  | settleTimerExpiry => exact queuesKeptBy_next (queuesKept_settleExpired s).when
  | dwellExpiry => exact queuesKeptBy_next (queuesKept_dwellExpired s).when
  | quietWindowExpiry =>
    exact queuesKeptBy_next (QueuesKept.when (.ite (queuesKept_quietExpired s) (.of_same rfl rfl rfl)))
  | withheldReleaseExpiry => exact queuesKeptBy_next (queuesKept_withheldExpired s).when
  | springCycleEntryExpiry => exact fun t h => queuesKept_springCycleEntry h
  | statusPeriodExpiry =>
    exact queuesKeptBy_next (QueuesKept.when ((queuesKept_formStatus s).same (u := statusExpired s) rfl rfl rfl))
  | storeComplete =>
    refine queuesKeptBy_next ?_
    split
    · exact QueuesKept.when ((queuesKept_answer _ _ _ _ _ _ _ _).after (.of_same rfl rfl rfl))
    · exact .refl s
  | deadlineExpiry _ | muteExpiry _ | scanTriggerExpiry | watchTimerExpiry | modulatorPulseStart _
  | modulatorPulseEnd _ | parkPulseEnd | confirmationWindowExpiry =>
    exact queuesKeptBy_next (.of_same rfl rfl rfl)

/-- Every step keeps the bounds: one of a waiting command, of a due event, or of a tick. -/
theorem queuesKeptBy_step (s : State) : QueuesKeptBy s (step s) := by
  unfold step takeFront
  split
  · unfold idle
    split
    · exact queuesKeptBy_next (.of_same rfl rfl rfl)
    · exact fun t h => (queuesKeptBy_exec _ _ t h).after (.of_same rfl rfl rfl)
  · exact fun t h => (queuesKeptBy_exec _ _ t h).after (.of_same rfl rfl rfl)

/-- Settles O54: what every step keeps, by the case analysis over the commands. -/
theorem queuesStayBounded : Obligations.QueuesStayBounded :=
  fun s t hs h => (queuesKeptBy_step s t h).bounded hs

end Sys2Proof.Machine
end

section
/-!
PROOFS. Frames on the bus and the requests that are not acted on: the frame written for a command is read back, a request at
an OFFLINE port, from a MUTED or from an ABSENT address, malformed and ignored frames, and the end of a mute (R32 to R35,
R42, R45).
-/

namespace Sys2Proof.Machine

open Sys2Proof.Safety

-- One theorem after another: elaborated all at once they need more thread stacks than the check's memory limit grants.
set_option Elab.async false

/-! ### Frames -/

theorem isRequestIdent_requestIdent : ∀ a : Address, isRequestIdent (requestIdent a) = true := by decide

theorem senderOf_requestIdent : ∀ a : Address, senderOf (requestIdent a) = a := by decide

/-- A number is sent as its two bytes (R47). -/
theorem wordOf_bytes (w : BitVec 16) : wordOf (lowByte w) (highByte w) = w := by
  unfold wordOf lowByte highByte
  refine BitVec.eq_of_toNat_eq ?_
  rw [BitVec.toNat_append, BitVec.extractLsb'_toNat, BitVec.extractLsb'_toNat, ← Nat.shiftLeft_add_eq_or_of_lt (by omega),
    Nat.shiftLeft_eq, Nat.shiftRight_eq_div_pow]
  have := w.isLt
  omega

/-- A data frame on the request identifier of an address is a request of that address, malformed by its length or read by
its kind (R32). -/
theorem decodeFrame_request {f : BusFrame} {a : Address} (hrej : f.rejected = false) (hext : f.extended = false)
    (hrem : f.remote = false) (hid : f.ident = requestIdent a) :
    decodeFrame f = if f.lengthCode != 8 then .malformedFrame a f.lengthCode f.b0 else decodeRequest a f := by
  unfold decodeFrame
  rw [hrej, hext, hrem, hid, isRequestIdent_requestIdent, senderOf_requestIdent]
  rfl

theorem decodeFrame_requestFrame (a : Address) (b0 b1 b2 b3 b4 b5 b6 b7 : Byte) :
    decodeFrame (requestFrame a b0 b1 b2 b3 b4 b5 b6 b7) = decodeRequest a (requestFrame a b0 b1 b2 b3 b4 b5 b6 b7) :=
  decodeFrame_request rfl rfl rfl rfl

/-- A first byte that is no request kind makes the frame malformed (R32). -/
theorem decodeRequest_malformed {a : Address} {f : BusFrame} (h : isRequestKind f.b0 = false) :
    decodeRequest a f = .malformedFrame a f.lengthCode f.b0 := by
  unfold decodeRequest
  split
  case h_12 => rfl
  all_goals
    next hk => rw [isRequestKind, hk] at h; cases h

theorem decodeFrame_malformed {a : Address} {code : Fin 16} {kind : Byte}
    (h : (Instr.malformedFrame a code kind).wf = true) :
    decodeFrame { requestFrame a kind 0 0 0 0 0 0 0 with lengthCode := code } = .malformedFrame a code kind := by
  rw [decodeFrame_request (a := a) rfl rfl rfl rfl]
  split
  · rfl
  · next hcode =>
    have hkind : isRequestKind kind = false := by simpa [Instr.wf, hcode] using h
    exact decodeRequest_malformed hkind

theorem decodeFrame_otherIdentifier {ident : BitVec 11} (h : isRequestIdent ident = false) :
    decodeFrame { requestFrame 0 0 0 0 0 0 0 0 0 with ident := ident } = .ignoredFrame (.otherIdentifier ident) := by
  unfold decodeFrame
  rw [h]
  rfl

/-- Settles O3: by the command, each request kind read by its first byte. -/
theorem framesDecodeBack : Obligations.FramesDecodeBack := by
  intro c f hwf hf
  cases c with
  | post a cls scope v life opts gate =>
    cases hf
    rw [decodeFrame_requestFrame]
    exact congrArg (Instr.post a cls scope · life opts gate) (wordOf_bytes v)
  | setParam a id v =>
    cases hf
    rw [decodeFrame_requestFrame]
    exact congrArg (Instr.setParam a id) (wordOf_bytes v)
  | refresh | release | excerpt | setRoster | store | clearTrip | exercise | exerciseStop | restart =>
    cases hf
    rw [decodeFrame_requestFrame]
    rfl
  | malformedFrame a code kind => cases hf; exact decodeFrame_malformed hwf
  | ignoredFrame reason =>
    cases reason with
    | otherIdentifier ident =>
      cases hf
      have hident : isRequestIdent ident = false := by simpa [Instr.wf] using hwf
      exact decodeFrame_otherIdentifier hident
    | extendedIdentifier | remoteFrame | rejectedForBusError => cases hf; rfl
  | _ => cases hf

/-! ### Requests not acted on -/

theorem request_unheard {s : State} {a : Address} (absent : State) (act : State → Result)
    (h : s.port.online = false ∨ s.roster[a].state = .muted) : request s a absent act = .next s := by
  unfold request
  rcases h with hoff | hmuted
  · rw [hoff]; rfl
  · rw [hmuted]
    cases s.port.online <;> rfl

theorem request_absent {s : State} {a : Address} (absent : State) (act : State → Result) (hon : s.port.online = true)
    (h : s.roster[a].state = .absent) : request s a absent act = .next absent := by
  unfold request
  rw [hon, h]
  rfl

theorem exec_excerpt (a : Address) (preset start count : Byte) (s : State) : exec (.excerpt a preset start count) s =
    request s a (notEnrolled s a .excerpt 0 0xFF 0) fun t => .next (excerptRequest t a preset start count) := rfl

theorem exec_store (a : Address) (s : State) : exec (.store a) s =
    request s a (notEnrolled s a .store 0 0 0) fun t => .next (storeRequest t a) := rfl

theorem exec_clearTrip (a : Address) (s : State) : exec (.clearTrip a) s =
    request s a (notEnrolled s a .clearTrip 0 0 0) fun t => .next (clearTripRequest t a) := rfl

theorem exec_exercise (a : Address) (channel mode count : Byte) (s : State) : exec (.exercise a channel mode count) s =
    request s a (notEnrolled s a .exercise channel 0 0) fun t => .next (exerciseRequest t a channel mode count) := rfl

theorem exec_exerciseStop (a : Address) (s : State) : exec (.exerciseStop a) s =
    request s a (notEnrolled s a .exerciseStop 0 0 0) fun t => .next (stopRequest t a) := rfl

theorem exec_restart (a : Address) (s : State) : exec (.restart a) s =
    request s a (notEnrolled s a .restart 0 0 0) fun t => .next (restartRequest t a) := rfl

/-- Every request takes the common path, and its NOT_ENROLLED answer bears its kind and, for a demand request, its class byte
(R33 to R35). -/
theorem exec_request {c : Instr} {a : Address} (h : requester c = some a) (s : State) :
    ∃ (kind : Kind) (subject b6 b7 : Byte) (act : State → Result),
      exec c s = request s a (notEnrolled s a kind subject b6 b7) act ∧
      ∀ g, encodeFrame c = some g → g.b0 = kind.code ∧ (kind.code.toNat ≤ 3 → subject = g.b1) := by
  cases c with
  | post =>
    cases h; exact ⟨_, _, _, _, _, exec_post .., fun g hg => by cases hg; exact ⟨rfl, fun _ => rfl⟩⟩
  | refresh =>
    cases h; exact ⟨_, _, _, _, _, exec_refresh .., fun g hg => by cases hg; exact ⟨rfl, fun _ => rfl⟩⟩
  | release =>
    cases h; exact ⟨_, _, _, _, _, exec_release .., fun g hg => by cases hg; exact ⟨rfl, fun _ => rfl⟩⟩
  | excerpt =>
    cases h; exact ⟨_, _, _, _, _, exec_excerpt .., fun g hg => by cases hg; exact ⟨rfl, (absurd · (by decide))⟩⟩
  | setParam =>
    cases h; exact ⟨.setParam, _, _, _, _, exec_setParam .., fun g hg => by cases hg; exact ⟨rfl, (absurd · (by decide))⟩⟩
  | setRoster =>
    cases h; exact ⟨_, _, _, _, _, exec_setRoster .., fun g hg => by cases hg; exact ⟨rfl, (absurd · (by decide))⟩⟩
  | store =>
    cases h; exact ⟨_, _, _, _, _, exec_store .., fun g hg => by cases hg; exact ⟨rfl, (absurd · (by decide))⟩⟩
  | clearTrip =>
    cases h; exact ⟨_, _, _, _, _, exec_clearTrip .., fun g hg => by cases hg; exact ⟨rfl, (absurd · (by decide))⟩⟩
  | exercise =>
    cases h; exact ⟨_, _, _, _, _, exec_exercise .., fun g hg => by cases hg; exact ⟨rfl, (absurd · (by decide))⟩⟩
  | exerciseStop =>
    cases h; exact ⟨_, _, _, _, _, exec_exerciseStop .., fun g hg => by cases hg; exact ⟨rfl, (absurd · (by decide))⟩⟩
  | restart =>
    cases h; exact ⟨_, _, _, _, _, exec_restart .., fun g hg => by cases hg; exact ⟨rfl, (absurd · (by decide))⟩⟩
  | _ => cases h

/-- Settles O4: every request takes the common path, which ends at once. -/
theorem unheardRequests : Obligations.UnheardRequests := by
  intro c a s hc hunheard
  obtain ⟨kind, subject, b6, b7, act, hexec, -⟩ := exec_request hc s
  rw [hexec, request_unheard _ _ hunheard]

theorem Port.push_room {p : Port} (f : Frame) (r : Bool) (hon : p.online = true) (h : p.answers.length < 8) :
    p.push f r = { p with answers := p.answers ++ [{ frame := f, restart := r }] } := by
  unfold Port.push
  rw [hon, decide_eq_true h]
  rfl

theorem Port.push_full {p : Port} (f : Frame) (r : Bool) (hon : p.online = true) (h : 8 ≤ p.answers.length) :
    p.push f r = { p with answersDropped := min 255 (p.answersDropped + 1) } := by
  unfold Port.push
  rw [hon, decide_eq_false (Nat.not_lt.2 h)]
  rfl

theorem Port.push_offline {p : Port} (f : Frame) (r : Bool) (hoff : p.online = false) : p.push f r = p := by
  cases p; cases hoff; rfl

/-- Settles O5: the answer of the common path, pushed onto the queue. -/
theorem absentRequests : Obligations.AbsentRequests := by
  intro c a g s hc hg hon habsent
  obtain ⟨kind, subject, b6, b7, act, hexec, hframe⟩ := exec_request hc s
  obtain ⟨hkind, hsubject⟩ := hframe g hg
  have hb5 : roomByte s.table s.settings.params = BitVec.ofNat 8 (freeEmergency s.table
      + if freeGeneral s.table < s.settings.params.roomThreshold then 128 else 0) := by
    simp [roomByte, roomLow, lo8]
  exact ⟨_, answerFrame s.table s.settings.params a kind subject .notEnrolled 0xFF b6 b7,
    by rw [hexec, request_absent _ _ hon habsent], rfl, Port.push_room _ _ hon, Port.push_full _ _ hon, rfl, hkind.symm,
    rfl, rfl, rfl, hb5, fun hdemand => hsubject (hkind ▸ hdemand)⟩

/-! ### Malformed and ignored frames, mutes -/

/-- A change of one record: the record becomes what the change gives. -/
theorem alter_record {roster : Vector RosterRecord 16} {a : Address} {f : RosterRecord → RosterRecord} {r : RosterRecord}
    (h : f roster[a] = r) : alter roster a f = put roster a r := by
  unfold alter; rw [h]

theorem put_self {α : Type} {n : Nat} (v : Vector α n) (i : Fin n) : put v i v[i] = v :=
  Vector.set_getElem_self _

theorem exec_malformedFrame {a : Address} {n : Fin 16} {k : Byte} {s : State} {r : RosterRecord}
    (hwf : (Instr.malformedFrame a n k).wf = true) (hon : s.port.online = true)
    (h : s.roster[a].malformedFrame s.clock.ms = r) :
    exec (.malformedFrame a n k) s = .next { s with roster := put s.roster a r } := by
  have hexec : exec (.malformedFrame a n k) s = .next (malformedEvent s a) := if_pos hwf
  rw [hexec, malformedEvent, if_pos hon, alter_record h]

theorem malformedFrame_counted {r : RosterRecord} (now : Ms) (hs : r.state = .enrolled) (h : r.malformed < 15) :
    r.malformedFrame now = { r with malformed := r.malformed + 1 } := by
  unfold RosterRecord.malformedFrame
  rw [hs, if_neg (by decide), if_neg (by omega)]

theorem malformedFrame_mutes {r : RosterRecord} (now : Ms) (hs : r.state = .enrolled) (h : r.malformed = 15) :
    r.malformedFrame now = { r with state := .muted, malformed := 16, muteTimer := some (now + 1000) } := by
  unfold RosterRecord.malformedFrame
  rw [hs, h, if_neg (by decide), if_pos (by decide)]
  rfl

theorem malformedFrame_stands {r : RosterRecord} (now : Ms) (hs : r.state ≠ .enrolled) : r.malformedFrame now = r :=
  if_pos (by simpa using hs)

/-- Settles O14: by the state of the record and its count, and by the form of the term. -/
theorem badFramesCounted : Obligations.BadFramesCounted := by
  refine ⟨fun a n k s hwf hon => ⟨fun hs h => ?_, fun hs h => ?_, fun hs => ?_⟩, fun r s hwf => if_pos hwf,
    fun c s hwf => ?_⟩
  · exact exec_malformedFrame hwf hon (malformedFrame_counted _ hs h)
  · exact exec_malformedFrame hwf hon (malformedFrame_mutes _ hs h)
  · rw [exec_malformedFrame hwf hon (malformedFrame_stands _ hs), put_self]
  · cases c with
    | malformedFrame => exact if_neg (by rw [hwf]; decide)
    | ignoredFrame => exact if_neg (by rw [hwf]; decide)
    | _ => cases hwf

/-- Settles O15: the timer is reached modulo 2^32. -/
theorem muteExpires : Obligations.MuteExpires := by
  intro a x s hmuted htimer hreached
  have hrecord : s.roster[a].unmute s.clock.ms = { s.roster[a] with state := .enrolled, malformed := 0, muteTimer := none } := by
    unfold RosterRecord.unmute
    rw [hmuted, htimer]
    exact if_pos (decide_eq_true hreached)
  show Host.Outcome.next { s with roster := alter s.roster a fun r => r.unmute s.clock.ms } = _
  rw [alter_record hrecord]

end Sys2Proof.Machine
end

section
/-!
PROOFS. The port: what the arbiter chooses, what a completed and a failed transmission leave, the way OFFLINE and back, and
the status frames (R42 to R46, R50, R191, R193 to R195, R201).
-/

namespace Sys2Proof.Machine

open Sys2Proof.Safety

-- One theorem after another: elaborated all at once they need more thread stacks than the check's memory limit grants.
set_option Elab.async false

/-! ### The arbiter -/

theorem lowestIdent_ne_none {l : List Transmission} (h : l ≠ []) : lowestIdent l ≠ none := by
  cases l with
  | nil => exact absurd rfl h
  | cons x xs =>
    unfold lowestIdent
    split
    · nofun
    · split <;> nofun

theorem lowestIdent_nil {l : List Transmission} (h : lowestIdent l = none) : l = [] :=
  Classical.byContradiction fun hne => lowestIdent_ne_none hne h

/-- The chosen frame is pending and none has a lower identifier (R43). -/
theorem lowestIdent_spec {l : List Transmission} {x : Transmission} (h : lowestIdent l = some x) :
    x ∈ l ∧ ∀ y ∈ l, x.frame.ident.toNat ≤ y.frame.ident.toNat := by
  induction l generalizing x with
  | nil => cases h
  | cons z zs ih =>
    unfold lowestIdent at h
    split at h
    · next hnone =>
      cases h
      rw [lowestIdent_nil hnone]
      exact ⟨List.mem_singleton_self _, fun y hy => by rw [List.mem_singleton.1 hy]⟩
    · next y hy =>
      obtain ⟨hmem, hle⟩ := ih hy
      split at h
      · next hlt =>
        cases h
        exact ⟨List.mem_cons_of_mem _ hmem, List.forall_mem_cons.2 ⟨hlt.le, hle⟩⟩
      · next hge =>
        cases h
        exact ⟨List.mem_cons_self, List.forall_mem_cons.2 ⟨le_rfl, fun w hw => (Nat.le_of_not_lt hge).trans (hle w hw)⟩⟩

/-- Settles O16: the arbiter's choice among the pending frames. -/
theorem transmitStarts : Obligations.TransmitStarts := by
  intro s hon hidle hpending
  obtain ⟨x, hx⟩ := Option.ne_none_iff_exists'.1 (lowestIdent_ne_none hpending)
  obtain ⟨hmem, hle⟩ := lowestIdent_spec hx
  have hchosen : s.port.chosen = some x := by
    unfold Port.chosen
    rw [hon, hidle]
    exact hx
  refine ⟨x, hmem, hle, ?_⟩
  show Host.Outcome.next _ = _
  rw [hchosen]

/-! ### A transmission completes -/

theorem exec_transmitComplete {s : State} {x : Transmission} (h : s.port.tx = some x) :
    exec .transmitComplete s = .next (sent s x) := by
  show Host.Outcome.next _ = _
  rw [h]

/-- A completed frame that no restart waits for and that is no excerpt frame changes the port alone (R43, R44). -/
theorem sent_port {s : State} {x : Transmission} (hr : x.restart = false)
    (hx : (decide (x.holder = .excerpt) && x.held) = false) :
    sent s x = { s with port := s.port.completed x } := by
  unfold sent
  rw [hr, hx]
  rfl

/-- The state once an excerpt frame that was sent has left its queue for the rest of it (R43, R44). -/
def excerptFreed (s : State) (rest : List Frame) : State :=
  { s with port := { s.port with excerpts := rest, tx := none, errorCount := s.port.errorCount - 1 } }

/-- A completed excerpt frame leaves its queue and is handed to the engine (R193). -/
theorem sent_excerpt {s : State} {f : Frame} {rest : List Frame} (h : s.port.excerpts = f :: rest) :
    sent s { holder := .excerpt, frame := f, restart := false, held := true } = excerptSent (excerptFreed s rest) f := by
  have hport : s.port.completed { holder := .excerpt, frame := f, restart := false, held := true } =
      { s.port with excerpts := rest, tx := none, errorCount := s.port.errorCount - 1 } := by
    unfold Port.completed Port.leaveHolder
    rw [if_pos rfl, h]
    rfl
  show excerptSent { s with port := s.port.completed _ } f = _
  rw [hport]
  rfl

/-- The oldest answer of an identifier leaves the queue (R42). -/
theorem eraseP_ident {pre rest : List QueuedAnswer} {q : QueuedAnswer}
    (h : ∀ p ∈ pre, p.frame.ident ≠ q.frame.ident) :
    (pre ++ q :: rest).eraseP (fun p => p.frame.ident = q.frame.ident) = pre ++ rest := by
  rw [List.eraseP_append_right _ fun p hp => by simpa using h p hp, List.eraseP_cons_of_pos (by simp)]

/-- The engine fills the free places of the frame queue with the next frames of its emission (R193). -/
theorem fillExcerpts_emitting {s : State} {e : Emission} (h : s.excerpt.emission = some e) :
    fillExcerpts s =
      { s with
        port := { s.port with
          excerpts := s.port.excerpts ++ ((emissionFrames e).drop e.placed).take (2 - s.port.excerpts.length) }
        excerpt := { s.excerpt with emission := some { e with
          placed := e.placed + (((emissionFrames e).drop e.placed).take (2 - s.port.excerpts.length)).length } } } := by
  unfold fillExcerpts
  rw [h]

/-- The emission of a request with the snapshot of the state standing, no frame placed yet (R191). -/
def emissionOf (s : State) (r : ExcerptRequest) : Emission :=
  { request := r, snapshot := snapshotOf s r.kind, placed := 0 }

/-- An emission starts with its snapshot and the frames for which there is place (R191, R193). -/
theorem startEmission_eq (s : State) (r : ExcerptRequest) :
    startEmission s r =
      { s with
        port := { s.port with
          excerpts := s.port.excerpts ++ (emissionFrames (emissionOf s r)).take (2 - s.port.excerpts.length) }
        excerpt := { s.excerpt with emission := some { emissionOf s r with
          placed := ((emissionFrames (emissionOf s r)).take (2 - s.port.excerpts.length)).length } } } := by
  unfold startEmission
  rw [fillExcerpts_emitting (e := emissionOf s r) rfl]
  simp only [emissionOf, List.drop_zero, Nat.zero_add]

theorem finishEmission_idle {s : State} (h : s.excerpt.waiting = []) :
    finishEmission s = { s with excerpt := { emission := none, waiting := [] } } := by
  unfold finishEmission
  rw [h]

theorem finishEmission_next {s : State} {r : ExcerptRequest} {rest : List ExcerptRequest}
    (h : s.excerpt.waiting = r :: rest) :
    finishEmission s = startEmission { s with excerpt := { emission := none, waiting := rest } } r := by
  unfold finishEmission
  rw [h]

/-- Settles O17: by the holder of the frame, and by the frame for an excerpt. -/
theorem frameSent : Obligations.FrameSent := by
  refine ⟨fun f pre rest s htx hanswers hpre => ?_, fun f k s htx => ?_,
    fun f rest s htx hexcerpts => ⟨fun e more hf he hmore => ?_, fun hf hw => ?_, fun r ws more hf hw hmore => ?_⟩,
    fun h f s htx => ?_⟩ <;> rw [exec_transmitComplete htx]
  · have herase := eraseP_ident (q := { frame := f, restart := false }) (rest := rest) hpre
    rw [sent_port rfl rfl, ← herase, ← hanswers]
    rfl
  · rw [sent_port rfl rfl]
    rfl
  · rw [sent_excerpt hexcerpts, excerptSent, if_neg hf, fillExcerpts_emitting (s := excerptFreed s rest) he, hmore]
    rfl
  · rw [sent_excerpt hexcerpts, excerptSent, if_pos hf, finishEmission_idle (s := excerptFreed s rest) hw]
    rfl
  · rw [sent_excerpt hexcerpts, excerptSent, if_pos hf, finishEmission_next (s := excerptFreed s rest) hw,
      startEmission_eq, hmore]
    rfl
  · rw [sent_port rfl (Bool.and_false _)]
    rfl

/-! ### A transmission fails -/

theorem exec_transmitFailure {s : State} {x : Transmission} (why : TransmitFault) (h : s.port.tx = some x) :
    exec (.transmitFailure why) s = .next (notSent s x why) := by
  show Host.Outcome.next _ = _
  rw [h]

/-- The status places after a failure: a status frame that its holder still holds gives way to one behind it (R43). -/
def placesAfter (p : Port) (x : Transmission) : Vector StatusPlace 3 :=
  match x.holder with
  | .status k =>
      if x.held = true ∧ p.status[k].behind ≠ none then
        put p.status k { current := p.status[k].behind, behind := none }
      else p.status
  | .answer => p.status
  | .excerpt => p.status

theorem StatusPlace.failed_behind {x : StatusPlace} (h : x.behind ≠ none) :
    x.failed = { current := x.behind, behind := none } :=
  if_pos (Option.isSome_iff_ne_none.2 h)

theorem StatusPlace.failed_alone {x : StatusPlace} (h : x.behind = none) : x.failed = x := by
  unfold StatusPlace.failed
  rw [h]
  rfl

theorem failed_status (p : Port) (x : Transmission) (why : TransmitFault) : (p.failed x why).status = placesAfter p x := by
  obtain ⟨holder, frame, restart, held⟩ := x
  cases holder with
  | answer => rfl
  | excerpt => rfl
  | status k =>
    cases held with
    | false => rfl
    | true =>
      show put p.status k p.status[k].failed = if true = true ∧ p.status[k].behind ≠ none then _ else _
      by_cases hb : p.status[k].behind = none
      · rw [if_neg fun h => h.2 hb, StatusPlace.failed_alone hb, put_self]
      · rw [if_pos ⟨rfl, hb⟩, StatusPlace.failed_behind hb]

/-- A failure below 256 changes the port alone (R43, R44). -/
theorem notSent_online {s : State} {x : Transmission} {why : TransmitFault} {n : Nat}
    (hn : errorAfter s.port.errorCount why = n) (h : n < 256) :
    notSent s x why =
      { s with port := { s.port with tx := none, status := placesAfter s.port x, errorCount := n } } := by
  subst hn
  have hfailed : notSent s x why = { s with port := s.port.failed x why } := if_pos h
  rw [hfailed, ← failed_status s.port x why]
  rfl

/-- At 256 the port goes OFFLINE, and the module starts cold where a restart waited for a frame so discarded
(R44, R45, R201). -/
theorem notSent_offline {s : State} {x : Transmission} {why : TransmitFault}
    (h : errorAfter s.port.errorCount why = 256) :
    notSent s x why =
      if s.port.holdsRestart then coldStart (goOffline { s with port := s.port.failed x why })
      else goOffline { s with port := s.port.failed x why } :=
  if_neg (show ¬ errorAfter s.port.errorCount why < 256 by omega)

theorem holdsRestart_iff {p : Port} {x : Transmission} (h : p.tx = some x) :
    p.holdsRestart = true ↔ x.restart = true ∨ ∃ q ∈ p.answers, q.restart = true := by
  unfold Port.holdsRestart
  rw [h, Bool.or_eq_true, List.any_eq_true, or_comm]

theorem busError_adds {n : Nat} (h : n < 248) : errorAfter n .busError = n + 8 := by
  show min 256 (n + 8) = n + 8; omega

theorem busError_fills {n : Nat} (h : 248 ≤ n) : errorAfter n .busError = 256 := by
  show min 256 (n + 8) = 256; omega

theorem noAcknowledgement_adds {n : Nat} (h : n < 128) : errorAfter n .noAcknowledgement = n + 8 :=
  (if_pos h).trans (busError_adds (by omega))

theorem noAcknowledgement_stands {n : Nat} (h : 128 ≤ n) : errorAfter n .noAcknowledgement = n :=
  if_neg (Nat.not_lt.2 h)

/-- A cold start reads neither the port nor the excerpt engine (R42, R191). -/
theorem coldStart_port (s : State) (p : Port) (e : ExcerptEngine) :
    coldStart { s with port := p, excerpt := e } = coldStart s := by
  have hblocks : coldBlocks { s with port := p, excerpt := e } = coldBlocks s := rfl
  unfold coldStart
  rw [hblocks]

/-- Settles O18: by the kind of the failure and the error count. -/
theorem failureCounts : Obligations.FailureCounts := by
  intro x places s htx hcount hplaces
  have hplaces : places = placesAfter s.port x := hplaces
  subst hplaces
  refine ⟨?_, fun h => ?_, fun h => ?_, fun h => ?_, fun h hx hq => ?_, fun h hrestart => ?_⟩ <;>
    rw [exec_transmitFailure _ htx]
  · rw [notSent_online (n := s.port.errorCount) rfl hcount]
  · rw [notSent_online (busError_adds h) (by omega)]
  · rw [notSent_online (noAcknowledgement_adds h) (by omega)]
  · rw [notSent_online (noAcknowledgement_stands h) hcount]
  · have hnone : s.port.holdsRestart = false := by
      rw [Bool.eq_false_iff, Ne, holdsRestart_iff htx]
      rintro (hx' | ⟨q, hmem, hq'⟩)
      · rw [hx] at hx'; cases hx'
      · rw [hq q hmem] at hq'; cases hq'
    rw [notSent_offline (busError_fills h), hnone, ← busError_fills h]
    rfl
  · rw [notSent_offline (busError_fills h), (holdsRestart_iff htx).2 hrestart]
    exact congrArg Host.Outcome.next (coldStart_port s _ _)

/-- Settles O19: the wait is due. -/
theorem rejoinsBus : Obligations.RejoinsBus := by
  intro x s htimer hx
  show Host.Outcome.next _ = _
  rw [htimer, due_some, if_pos (decide_eq_true hx)]
  rfl

/-! ### Status frames -/

theorem placeStatus_offline {p : Port} (k : Fin 3) (f : Frame) (h : p.online = false) : p.placeStatus k f = p := by
  cases p; cases h; rfl

/-- With nothing in transmission a status frame stands in the place of its identifier (R43). -/
theorem placeStatus_idle {p : Port} (k : Fin 3) (f : Frame) (hon : p.online = true) (htx : p.tx = none) :
    (p.placeStatus k f).status = put p.status k { p.status[k] with current := some f } := by
  unfold Port.placeStatus
  rw [htx, hon]
  rfl

theorem placeFrames_offline {s : State} (h : s.port.online = false) : placeFrames s = s.port := by
  unfold placeFrames
  rw [placeStatus_offline 0 _ h, placeStatus_offline 1 _ h, placeStatus_offline 2 _ h]

/-- The three frames stand in their places (R43, R195). -/
theorem placeFrames_idle {s : State} (hon : s.port.online = true) (htx : s.port.tx = none) :
    (placeFrames s).status[0].current = some (statusA s) ∧
    (placeFrames s).status[1].current = some (statusB s (nextPage s.status.lastPage)) ∧
    (placeFrames s).status[2].current = some (statusC s) := by
  unfold placeFrames
  rw [placeStatus_idle (p := (s.port.placeStatus 0 _).placeStatus 1 _) 2 _ hon htx,
    placeStatus_idle (p := s.port.placeStatus 0 _) 1 _ hon htx, placeStatus_idle 0 _ hon htx]
  simp [put]

/-- Settles O20: the formation at a due period. -/
theorem statusFormed : Obligations.StatusFormed := by
  intro s hdue
  have hexec : exec .statusPeriodExpiry s = .next (statusExpired s) := by
    show Host.Outcome.next _ = _
    rw [if_pos hdue]
  exact ⟨_, hexec, rfl, rfl, rfl, rfl, rfl, fun hoff => congrArg Port.status (placeFrames_offline hoff), placeFrames_idle⟩

end Sys2Proof.Machine
end

section
/-!
PROOFS. Answers and what is answered: an EXCERPT started, queued or refused, EXERCISE and EXERCISE_STOP, and the completion of
a STORE (R36, R42, R45, R48, R146, R148, R190 to R193, R199).
-/

namespace Sys2Proof.Machine

open Sys2Proof.Safety

-- One theorem after another: elaborated all at once they need more thread stacks than the check's memory limit grants.
set_option Elab.async false

/-! ### Answers -/

/-- An answer formed after a change that leaves the answer queue joins it, or is dropped and counted (R42). -/
theorem queuesAnswer_answer {s t : State} (a : Address) (k : Kind) (x : Byte) (o : AnswerCode) (u v w : Byte)
    (hon : t.port.online = true) (ha : t.port.answers = s.port.answers)
    (hd : t.port.answersDropped = s.port.answersDropped) :
    queuesAnswer s (answer t a k x o u v w) (answerFrame t.table t.settings.params a k x o u v w) := by
  unfold queuesAnswer
  rw [answer_port, ← ha, ← hd]
  refine ⟨fun hroom => ?_, fun hfull => ?_⟩
  · rw [Port.push_room _ _ hon hroom]; exact ⟨rfl, rfl⟩
  · rw [Port.push_full _ _ hon hfull]; exact ⟨rfl, rfl⟩

/-! ### EXCERPT -/

/-- A range that passes its checks names a slot (R190). -/
theorem excerptKindOf_range {preset start count : Byte} {i n : Nat}
    (h : excerptKindOf preset start count = some (.range i n)) : i < 32 ∧ 1 ≤ n := by
  unfold excerptKindOf at h
  split at h
  · split at h <;> cases h
  · split at h
    · cases h
    · next hok =>
      simp only [Bool.or_eq_true, decide_eq_true_eq, not_or] at hok
      obtain ⟨hcount, hstart⟩ := hok
      cases h
      omega

/-- The snapshot of a request that passes its checks holds an item (R190, R191). -/
theorem snapshotOf_nonempty (s : State) {preset start count : Byte} {k : ExcerptKind}
    (h : excerptKindOf preset start count = some k) : 1 ≤ (snapshotOf s k).length := by
  cases k with
  | channels => simp [snapshotOf]
  | roster => simp [snapshotOf]
  | range i n =>
    obtain ⟨hi, hn⟩ := excerptKindOf_range h
    rw [snapshotOf, List.length_map]
    refine List.length_pos_of_mem (a := (⟨i, hi⟩ : Slot)) (List.mem_filter.2 ⟨List.mem_finRange _, ?_⟩)
    simp only [Bool.and_eq_true, decide_eq_true_eq]
    omega

/-- An emission has two frames at least: one of its snapshot, and END (R192). -/
theorem emissionFrames_two (s : State) {a : Address} {preset start count : Byte} {k : ExcerptKind}
    (h : excerptKindOf preset start count = some k) :
    ((emissionFrames (emissionOf s { requester := a, kind := k })).take 2).length = 2 := by
  have hitem := snapshotOf_nonempty s h
  rw [List.length_take, emissionFrames, List.length_append, List.length_map, List.length_singleton]
  change min 2 ((snapshotOf s k).length + 1) = 2
  omega

/-- The state of an EXCERPT from an ENROLLED sender before its answer: the sender's malformed count at 0, the excerpt frames
and the engine as the request leaves them. -/
def excerptTaken (s : State) (a : Address) (frames : List Frame) (engine : ExcerptEngine) : State :=
  { wellFormed s a with port := { s.port with excerpts := frames }, excerpt := engine }

/-- What every EXCERPT has in common, however it is admitted: it is answered, and of the port and the engine only what the
admission leaves (R33, R42, R48). -/
theorem excerpt_answered {s : State} {a : Address} {b1 start count : Byte} {frames : List Frame} {engine : ExcerptEngine}
    {code : AnswerCode} {place : Byte} {P : State → Frame → Prop} (hon : s.port.online = true)
    (hexec : exec (.excerpt a b1 start count) s = .next (excerptAnswer (excerptTaken s a frames engine) a code place))
    (hP : P (excerptAnswer (excerptTaken s a frames engine) a code place)
      (answerFrame s.table s.settings.params a .excerpt 0 code 0xFF place 0)) :
    ∃ (t : State) (f : Frame), exec (.excerpt a b1 start count) s = .next t ∧
      t = { s with roster := t.roster, port := t.port, excerpt := t.excerpt } ∧
      t.roster = put s.roster a { s.roster[a] with malformed := 0 } ∧
      t.port = { s.port with answers := t.port.answers, answersDropped := t.port.answersDropped,
                             excerpts := t.port.excerpts } ∧
      queuesAnswer s t f ∧ f.ident = BitVec.ofNat 11 (0x260 + a.val) ∧ f.b0 = 4 ∧ f.b1 = 0 ∧ f.b3 = 0xFF ∧ f.b7 = 0 ∧
      f.b4 = BitVec.ofNat 8 (freeGeneral s.table) ∧ P t f :=
  ⟨_, _, hexec, rfl, rfl, rfl, queuesAnswer_answer (t := excerptTaken s a frames engine) _ _ _ _ _ _ _ hon rfl rfl, rfl,
    rfl, rfl, rfl, rfl, rfl, hP⟩

theorem execExcerpt_enrolled {s : State} {a : Address} (b1 start count : Byte) (hon : s.port.online = true)
    (hen : s.roster[a].state = .enrolled) :
    exec (.excerpt a b1 start count) s = .next (excerptRequest (wellFormed s a) a b1 start count) := by
  rw [exec_excerpt, request_enrolled _ _ hon hen]

theorem execExcerpt_bad {s : State} {a : Address} {b1 start count : Byte} (hon : s.port.online = true)
    (hen : s.roster[a].state = .enrolled) (h : excerptKindOf b1 start count = none) :
    exec (.excerpt a b1 start count) s =
      .next (excerptAnswer (excerptTaken s a s.port.excerpts s.excerpt) a .badField 0xFF) := by
  rw [execExcerpt_enrolled b1 start count hon hen, excerptRequest, h]
  rfl

theorem not_idle_wellFormed {s : State} (a : Address) (h : s.excerpt.emission ≠ none) :
    ¬ (wellFormed s a).excerpt.emission.isNone = true := by
  rw [wellFormed_excerpt, Option.isNone_iff_eq_none]; exact h

section
variable {s : State} {a : Address} {b1 start count : Byte} {k : ExcerptKind} (hon : s.port.online = true)
  (hen : s.roster[a].state = .enrolled) (hk : excerptKindOf b1 start count = some k)
include hon hen hk

theorem execExcerpt_admitted : exec (.excerpt a b1 start count) s =
    .next (admitExcerpt (wellFormed s a) a { requester := a, kind := k }) := by
  rw [execExcerpt_enrolled b1 start count hon hen, excerptRequest, hk]

/-- With the engine IDLE the emission starts, and its first frames join the frame queue (R190, R193). -/
theorem execExcerpt_starts (h : s.excerpt.emission = none) : exec (.excerpt a b1 start count) s =
    .next (excerptAnswer (excerptTaken s a
      (s.port.excerpts ++ (emissionFrames (emissionOf (wellFormed s a) { requester := a, kind := k })).take
        (2 - s.port.excerpts.length))
      { s.excerpt with emission := some { emissionOf (wellFormed s a) { requester := a, kind := k } with
          placed := ((emissionFrames (emissionOf (wellFormed s a) { requester := a, kind := k })).take
            (2 - s.port.excerpts.length)).length } }) a .accepted 0) := by
  have hidle : (wellFormed s a).excerpt.emission.isNone = true := by rw [wellFormed_excerpt, h]; rfl
  rw [execExcerpt_admitted hon hen hk, admitExcerpt, if_pos hidle, startEmission_eq]
  rfl

/-- Behind an emission the request joins the waiting ones (R190). -/
theorem execExcerpt_waits (h : s.excerpt.emission ≠ none) (hw : s.excerpt.waiting.length < 2) :
    exec (.excerpt a b1 start count) s =
      .next (excerptAnswer (excerptTaken s a s.port.excerpts
        { s.excerpt with waiting := s.excerpt.waiting ++ [{ requester := a, kind := k }] }) a .accepted
          (lo8 (s.excerpt.waiting.length + 1))) := by
  rw [execExcerpt_admitted hon hen hk, admitExcerpt, if_neg (not_idle_wellFormed a h)]
  exact congrArg Host.Outcome.next (if_pos hw)

theorem execExcerpt_busy (h : s.excerpt.emission ≠ none) (hw : 2 ≤ s.excerpt.waiting.length) :
    exec (.excerpt a b1 start count) s =
      .next (excerptAnswer (excerptTaken s a s.port.excerpts s.excerpt) a .busy 0xFF) := by
  rw [execExcerpt_admitted hon hen hk, admitExcerpt, if_neg (not_idle_wellFormed a h)]
  exact congrArg Host.Outcome.next (if_neg (Nat.not_lt.2 hw))

end

/-- Settles O21: refused, started, queued or refused BUSY, by the request and the engine. -/
theorem excerptStarts : Obligations.ExcerptStarts := by
  intro a b1 start count s hon hen
  cases hk : excerptKindOf b1 start count with
  | none =>
    exact excerpt_answered hon (execExcerpt_bad hon hen hk) ⟨nofun, fun _ => ⟨rfl, rfl, rfl, rfl⟩⟩
  | some k =>
    by_cases he : s.excerpt.emission = none
    · refine excerpt_answered hon (execExcerpt_starts hon hen hk he)
        ⟨fun k' hk' => ⟨fun _ => ⟨rfl, rfl, fun hempty => ?_⟩, fun hne => absurd he hne, fun hne => absurd he hne⟩, nofun⟩
      cases hk'
      rw [hempty]
      exact ⟨rfl, by rw [List.length_nil, emissionFrames_two _ hk]; rfl, rfl⟩
    · by_cases hw : s.excerpt.waiting.length < 2
      · exact excerpt_answered hon (execExcerpt_waits hon hen hk he hw)
          ⟨fun k' hk' => ⟨fun h => absurd h he, fun _ _ => by cases hk'; exact ⟨rfl, rfl, rfl, rfl⟩,
            fun _ h => absurd hw (Nat.not_lt.2 h)⟩, nofun⟩
      · exact excerpt_answered hon (execExcerpt_busy hon hen hk he (Nat.le_of_not_lt hw))
          ⟨fun _ _ => ⟨fun h => absurd h he, fun _ h => absurd h hw, fun _ _ => ⟨rfl, rfl, rfl, rfl⟩⟩, nofun⟩

/-! ### EXERCISE and EXERCISE_STOP -/

theorem channel_toNat (c : Channel) : (BitVec.ofNat 8 c.val).toNat = c.val := by
  rw [BitVec.toNat_ofNat]; omega

/-- An EXERCISE of a permitted channel goes to the engine (R36). -/
theorem exerciseRequest_permitted {s : State} {a : Address} {c : Channel} (mode count : Byte)
    (hp : permits s.roster[a].classes .test = true) (hs : s.roster[a].scope.getLsbD c.val = true) :
    exerciseRequest s a (BitVec.ofNat 8 c.val) mode count = exerciseEngine s a c mode count := by
  have hlt : (BitVec.ofNat 8 c.val).toNat < 6 := by rw [channel_toNat]; exact c.isLt
  have hchannel : (⟨(BitVec.ofNat 8 c.val).toNat, hlt⟩ : Channel) = c := Fin.ext (channel_toNat c)
  unfold exerciseRequest
  rw [hp, dif_pos hlt, hchannel, channel_toNat, if_pos hs]
  rfl

/-- The engine takes an EXERCISE in IDLE under the conditions of R146. -/
theorem exerciseEngine_accepted {s : State} {a : Address} {c : Channel} {mode count : Byte} {x : ExerciseMode}
    (hx : exerciseModeOf mode count = some x) (hr : s.exercise.running = false) (hok : exerciseStateOk s c = true) :
    exerciseEngine s a c mode count = plainAnswer (startExercise s a c x) a .exercise (lo8 c.val) .accepted := by
  unfold exerciseEngine
  rw [hx, hr, hok]
  rfl

/-- Settles O28: the checks of R36 and R146 passed. -/
theorem exerciseStarts : Obligations.ExerciseStarts := by
  intro a c m n x s hon hen hperm hscope hmode hidle hv hstate htrip hcircuit
  have hrecord := wellFormed_record s a
  have hok : exerciseStateOk (wellFormed s a) c = true := by
    simp only [exerciseStateOk, electronic, wellFormed_vref, wellFormed_coord, wellFormed_trip, wellFormed_circuit,
      Bool.and_eq_true, decide_eq_true_eq, Bool.not_eq_true']
    exact ⟨⟨⟨hv, hstate⟩, htrip⟩, hcircuit⟩
  have hrequest : exerciseRequest (wellFormed s a) a (BitVec.ofNat 8 c.val) m n =
      plainAnswer (startExercise (wellFormed s a) a c x) a .exercise (lo8 c.val) .accepted := by
    rw [exerciseRequest_permitted m n (by rw [hrecord]; exact hperm) (by rw [hrecord]; exact hscope),
      exerciseEngine_accepted (s := wellFormed s a) hmode hidle hok]
  refine ⟨_, by rw [exec_exercise, request_enrolled _ _ hon hen, hrequest], rfl, ?_, rfl⟩
  exact answersSender_answer (t := startExercise (wellFormed s a) a c x) _ _ _ _ _ _ rfl rfl

/-- A running exercise that ends is answered EXERCISE_DONE to its owner (R148). -/
theorem endExercise_running {s : State} {o : Address} {c : Channel} (why : EndReason) (hr : s.exercise.running = true)
    (ho : s.exercise.owner = some o) (hc : s.exercise.channel = some c) :
    endExercise s why =
      answer { s with exercise := { s.exercise with running := false } } o .exerciseDone (lo8 c.val) .accepted
        (reasonByte why s.exercise.wrapped) (lo8 s.exercise.cycles) (hi8 s.exercise.cycles) := by
  unfold endExercise
  rw [hr, ho, hc]
  rfl

/-- Two answers join a queue with room for them in the order in which they are formed (R42). -/
theorem Port.push_two {p : Port} (f g : Frame) (hon : p.online = true) (h : p.answers.length ≤ 6) :
    (p.push f false).push g false =
      { p with answers := p.answers ++ [{ frame := f, restart := false }, { frame := g, restart := false }] } := by
  have hsecond : (p.answers ++ [({ frame := f, restart := false } : QueuedAnswer)]).length < 8 := by
    rw [List.length_append, List.length_singleton]; omega
  rw [Port.push_room f false hon (by omega),
    Port.push_room (p := { p with answers := p.answers ++ [{ frame := f, restart := false }] }) g false hon hsecond]
  simp only [List.append_assoc, List.cons_append, List.nil_append]

/-- The stop of a running exercise: EXERCISE_DONE for the owner, then the answer to the sender (R148). -/
theorem stopRequest_running {s : State} {a o : Address} {c : Channel} (hp : permits s.roster[a].classes .test = true)
    (hr : s.exercise.running = true) (ho : s.exercise.owner = some o) (hc : s.exercise.channel = some c) :
    stopRequest s a =
      answer (answer { s with exercise := { s.exercise with running := false } } o .exerciseDone (lo8 c.val) .accepted
          (reasonByte .stopRequest s.exercise.wrapped) (lo8 s.exercise.cycles) (hi8 s.exercise.cycles))
        a .exerciseStop (lo8 c.val) .accepted (reasonByte .stopRequest s.exercise.wrapped) (lo8 s.exercise.cycles)
        (hi8 s.exercise.cycles) := by
  have hbyte : s.exercise.channelByte = lo8 c.val := by unfold Exercise.channelByte; rw [hc]; rfl
  unfold stopRequest acceptStop
  rw [hp, if_neg (by decide), hr, if_neg (by decide), endExercise_running _ hr ho hc, hbyte]

/-- Settles O29: two answers are pushed onto a queue with room for both. -/
theorem exerciseStops : Obligations.ExerciseStops := by
  intro a o c s hon hen hperm hrun howner hchannel hroom
  have hrequest := stopRequest_running (s := wellFormed s a) (a := a) (by rw [wellFormed_record]; exact hperm)
    hrun howner hchannel
  have hexec := (exec_exerciseStop a s).trans
    ((request_enrolled _ _ hon hen).trans (congrArg Host.Outcome.next hrequest))
  exact ⟨_, _, _, hexec, rfl, ⟨rfl, rfl⟩, congrArg Port.answers (Port.push_two _ _ hon hroom), rfl, rfl, rfl, rfl, rfl,
    rfl, rfl, rfl, rfl, rfl, rfl⟩

/-! ### STORE_COMPLETE -/

/-- Settles O26: the answer of the completion, pushed onto the queue of an ONLINE port or discarded. -/
theorem storeCompletes : Obligations.StoreCompletes := by
  intro j s hstore hdue
  have hexec : exec .storeComplete s = .next (finishStore s j) := by
    show Host.Outcome.next _ = _
    rw [hstore]
    exact congrArg Host.Outcome.next (if_pos hdue)
  exact ⟨_, hexec, rfl, rfl, Port.push_offline _ _,
    fun hon hroom => ⟨_, Port.push_room _ _ hon hroom, rfl, rfl, rfl⟩⟩

end Sys2Proof.Machine
end

section
/-!
PROOFS. SET_PARAM: the checks of R197 as the manual words them, the write of each id with its effect, the rise of an enabled
source, and the scan-list group (R36, R68 to R70, R116, R126 to R128, R161, R162, R181, R197).
-/

namespace Sys2Proof.Machine

open Sys2Proof.Safety

-- One theorem after another: elaborated all at once they need more thread stacks than the check's memory limit grants.
set_option Elab.async false

/-! ### The parameter set after a write -/

section
variable (p : Params) {id : Nat} (v : Nat) (h1 : 1 ≤ id) (h43 : id ≤ 43)
include h1 h43

/-- A write changes its own id and no other (R197). -/
theorem setParam_index {j : Nat} (hj : j < 43) : (setParam p id v)[j] = if j + 1 = id then v else p[j] := by
  rw [setParam_get p v (by omega) j hj]
  by_cases h : j + 1 = id
  · rw [if_pos h, if_pos (by omega)]
  · rw [if_neg h, if_neg (by omega)]

theorem setParam_pmax (axle : Fin 3) :
    (setParam p id v).pmax axle = if axle.val + 7 = id then v else p.pmax axle :=
  setParam_index p v h1 h43 (by omega)

theorem setParam_slipOn : (setParam p id v).slipOn = if 21 = id then v else p.slipOn :=
  setParam_index p v h1 h43 (by omega)

theorem setParam_slipOff : (setParam p id v).slipOff = if 22 = id then v else p.slipOff :=
  setParam_index p v h1 h43 (by omega)

theorem setParam_holdMin : (setParam p id v).holdMin = if 30 = id then v else p.holdMin :=
  setParam_index p v h1 h43 (by omega)

theorem setParam_holdMax : (setParam p id v).holdMax = if 31 = id then v else p.holdMax :=
  setParam_index p v h1 h43 (by omega)

theorem setParam_cycleWindow : (setParam p id v).cycleWindow = if 36 = id then v else p.cycleWindow :=
  setParam_index p v h1 h43 (by omega)

theorem setParam_undervoltOn : (setParam p id v).undervoltOn = if 41 = id then v != 0 else p.undervoltOn :=
  (congrArg (· != 0) (setParam_index p v h1 h43 (show 40 < 43 by decide))).trans (apply_ite (· != 0) _ _ _)

theorem setParam_overpressureOn : (setParam p id v).overpressureOn = if 42 = id then v != 0 else p.overpressureOn :=
  (congrArg (· != 0) (setParam_index p v h1 h43 (show 41 < 43 by decide))).trans (apply_ite (· != 0) _ _ _)

theorem setParam_scanStallOn : (setParam p id v).scanStallOn = if 43 = id then v != 0 else p.scanStallOn :=
  (congrArg (· != 0) (setParam_index p v h1 h43 (show 42 < 43 by decide))).trans (apply_ite (· != 0) _ _ _)

/-- The joint checks pass where the id written keeps slip off below slip on and hold_min at most hold_max (R99, R167). -/
theorem jointOk_setParam (hon : id = 21 → p.slipOff < v) (hoff : id = 22 → v < p.slipOn)
    (hmin : id = 30 → v ≤ p.holdMax) (hmax : id = 31 → p.holdMin ≤ v) : jointOk (setParam p id v) id = true := by
  unfold jointOk
  rw [setParam_slipOn p v h1 h43, setParam_slipOff p v h1 h43, setParam_holdMin p v h1 h43,
    setParam_holdMax p v h1 h43]
  by_cases h21 : id = 21
  · subst h21; simpa using hon rfl
  by_cases h22 : id = 22
  · subst h22; simpa using hoff rfl
  by_cases h30 : id = 30
  · subst h30; simpa using hmin rfl
  by_cases h31 : id = 31
  · subst h31; simpa using hmax rfl
  simp [h21, h22, h30, h31]

end

theorem valueInForce_param (p : Params) (g : Sampling) (j : Fin 43) : valueInForce p g (j.val + 1) = p[j] :=
  dif_pos ⟨Nat.le_add_left .., by omega⟩

theorem valueInForce_written (p : Params) (g : Sampling) {id : Nat} (v : Nat) (h1 : 1 ≤ id) (h43 : id ≤ 43) :
    valueInForce (setParam p id v) g id = v := by
  obtain ⟨j, rfl⟩ : ∃ j, id = j + 1 := ⟨id - 1, by omega⟩
  exact (valueInForce_param _ g ⟨j, by omega⟩).trans ((setParam_index p v h1 h43 (by omega)).trans (if_pos rfl))

theorem valueInForce_unknown (p : Params) (g : Sampling) {id : Nat} (h : id = 0 ∨ 49 < id) : valueInForce p g id = 0 := by
  unfold valueInForce
  rw [dif_neg (by omega)]
  split
  case h_7 => rfl
  all_goals omega

theorem lo8_toNat (v : BitVec 16) : lo8 v.toNat = v.extractLsb' 0 8 := by
  refine BitVec.eq_of_toNat_eq ?_
  rw [lo8, BitVec.toNat_ofNat, BitVec.extractLsb'_toNat, Nat.shiftRight_zero]

theorem hi8_toNat (v : BitVec 16) : hi8 v.toNat = v.extractLsb' 8 8 := by
  refine BitVec.eq_of_toNat_eq ?_
  rw [hi8, BitVec.toNat_ofNat, BitVec.extractLsb'_toNat, Nat.shiftRight_eq_div_pow]

/-! ### The scan list -/

/-- The list covers the inputs just where each is named by a record within it (R114, R126). -/
theorem coversInputs_iff (records : Vector PointRecord 16) (n : Nat) :
    coversInputs records n = true ↔ ∀ k : Fin 12, ∃ r : Fin 16, r.val < n ∧ records[r].input = k := by
  simp [coversInputs, inputsOf]

theorem withInput_input (r : PointRecord) (k : Fin 12) : (r.withInput k).input = k := by
  unfold PointRecord.withInput
  split
  · next h => exact h
  · split <;> rfl

theorem withInput_eq (r : PointRecord) (k : Fin 12) : r.withInput k =
    if r.input = k then r
    else { r with input := k, low := if k = 11 then 160 else 0, high := if k = 11 then 400 else 1000 } := by
  unfold PointRecord.withInput
  split
  · rfl
  · split <;> rfl

theorem alter_point_same (records : Vector PointRecord 16) (i : Fin 16) (f : PointRecord → PointRecord) :
    (alter records i f)[i] = f records[i] := alter_same records i f

theorem alter_point_other (records : Vector PointRecord 16) {i j : Fin 16} (f : PointRecord → PointRecord) (h : j ≠ i) :
    (alter records i f)[j] = records[j] := alter_other records i j f (Ne.symm h)

/-- A change of the selected input keeps the coverage just where every other input is named by another record (R126). -/
theorem coversInputs_changed (records : Vector PointRecord 16) {n : Nat} {i : Fin 16} (k : Fin 12) (hi : i.val < n) :
    coversInputs (alter records i fun r => r.withInput k) n = true ↔
      ∀ m : Fin 12, m ≠ k → ∃ r : Fin 16, r.val < n ∧ r ≠ i ∧ records[r].input = m := by
  rw [coversInputs_iff]
  refine ⟨fun h m hm => ?_, fun h m => ?_⟩
  · obtain ⟨r, hr, hinput⟩ := h m
    have hri : r ≠ i := by
      rintro rfl
      rw [alter_point_same, withInput_input] at hinput
      exact hm hinput.symm
    rw [alter_point_other _ _ hri] at hinput
    exact ⟨r, hr, hri, hinput⟩
  · by_cases hm : m = k
    · exact ⟨i, hi, by rw [alter_point_same, withInput_input, hm]⟩
    · obtain ⟨r, hr, hri, hinput⟩ := h m hm
      exact ⟨r, hr, by rw [alter_point_other _ _ hri]; exact hinput⟩

theorem paramOk_scan (p : Params) (g : Sampling) {id : Nat} (v : Nat) (h : 44 ≤ id) :
    paramOk p g id v = scanParamOk g id v := if_neg (Nat.not_lt.2 h)

theorem scanParamOk_unknown (g : Sampling) {id : Nat} (v : Nat) (h : 49 < id) : scanParamOk g id v = false := by
  unfold scanParamOk
  split
  case h_7 => rfl
  all_goals omega

/-! ### What is refused -/

/-- What the checks 3 to 5 of R197 refuse: an unknown id, a value out of its range, a joint check, or a scan list that would
miss an input (R99, R116, R126, R167). -/
def badParam (p : Params) (g : Sampling) (id v : Nat) : Prop :=
  id = 0 ∨ 49 < id ∨ (1 ≤ id ∧ id ≤ 43 ∧ inRange id v = false) ∨
  (id = 21 ∧ v ≤ p.slipOff) ∨ (id = 22 ∧ p.slipOn ≤ v) ∨ (id = 30 ∧ p.holdMax < v) ∨ (id = 31 ∧ v < p.holdMin) ∨
  (id = 44 ∧ 15 < v) ∨
  (id = 45 ∧ (v < 12 ∨ 16 < v ∨ ∃ k : Fin 12, ∀ r : Fin 16, r.val < v → g.records[r].input ≠ k)) ∨
  (id = 46 ∧ (11 < v ∨ g.selector.val < g.length ∧
    ∃ k : Fin 12, k.val ≠ v ∧ ∀ r : Fin 16, r.val < g.length → r ≠ g.selector → g.records[r].input ≠ k)) ∨
  (id = 47 ∧ 1 < v) ∨
  (id = 48 ∧ (g.records[g.selector].input.val < 6 ∨ g.records[g.selector].input = 11 ∨ 1000 < v ∨
    g.records[g.selector].high < v)) ∨
  (id = 49 ∧ (g.records[g.selector].input.val < 6 ∨ v < g.records[g.selector].low ∨
    g.records[g.selector].input = 11 ∧ (v < 160 ∨ 400 < v) ∨ g.records[g.selector].input ≠ 11 ∧ 1000 < v))

/-- A joint check that fails refuses the value whatever its range. -/
theorem paramOk_joint {p : Params} {g : Sampling} {id v : Nat} (hid : id < 44)
    (h : jointOk (setParam p id v) id = false) : paramOk p g id v = false := by
  rw [paramOk, if_pos hid, h, Bool.and_false]

theorem scanParamOk_length {g : Sampling} {v : Nat}
    (h : v < 12 ∨ 16 < v ∨ ∃ k : Fin 12, ∀ r : Fin 16, r.val < v → g.records[r].input ≠ k) :
    scanParamOk g 45 v = false := by
  refine Bool.eq_false_iff.2 fun hok => ?_
  simp only [scanParamOk, Bool.and_eq_true, decide_eq_true_eq, coversInputs_iff] at hok
  obtain ⟨⟨hlo, hhi⟩, hcovers⟩ := hok
  rcases h with h | h | ⟨k, h⟩
  · omega
  · omega
  · obtain ⟨r, hr, hinput⟩ := hcovers k
    exact h r hr hinput

theorem scanParamOk_input {g : Sampling} {v : Nat} (h : 11 < v ∨ g.selector.val < g.length ∧
      ∃ k : Fin 12, k.val ≠ v ∧ ∀ r : Fin 16, r.val < g.length → r ≠ g.selector → g.records[r].input ≠ k) :
    scanParamOk g 46 v = false := by
  rcases h with h | ⟨hsel, k, hk, h⟩
  · exact dif_neg (by omega)
  · refine Bool.eq_false_iff.2 fun hok => ?_
    simp only [scanParamOk] at hok
    split at hok
    · next hv =>
      rw [decide_eq_true hsel, Bool.not_true, Bool.false_or, coversInputs_changed _ _ hsel] at hok
      obtain ⟨r, hr, hri, hinput⟩ := hok k fun hkv => hk (congrArg Fin.val hkv)
      exact h r hr hri hinput
    · cases hok

theorem scanParamOk_low {g : Sampling} {v : Nat} (h : g.records[g.selector].input.val < 6 ∨
      g.records[g.selector].input = 11 ∨ 1000 < v ∨ g.records[g.selector].high < v) : scanParamOk g 48 v = false := by
  refine Bool.eq_false_iff.2 fun hok => ?_
  simp only [scanParamOk, Bool.and_eq_true, decide_eq_true_eq] at hok
  obtain ⟨⟨⟨h6, h10⟩, hmax⟩, hhigh⟩ := hok
  rcases h with h | h | h | h
  · omega
  · rw [h] at h10; exact absurd h10 (by decide)
  · omega
  · omega

theorem scanParamOk_high {g : Sampling} {v : Nat} (h : g.records[g.selector].input.val < 6 ∨
      v < g.records[g.selector].low ∨ g.records[g.selector].input = 11 ∧ (v < 160 ∨ 400 < v) ∨
      g.records[g.selector].input ≠ 11 ∧ 1000 < v) : scanParamOk g 49 v = false := by
  refine Bool.eq_false_iff.2 fun hok => ?_
  simp only [scanParamOk, Bool.and_eq_true, decide_eq_true_eq] at hok
  obtain ⟨⟨h6, hlow⟩, hrange⟩ := hok
  rcases h with h | h | ⟨h, hv⟩ | ⟨h, hv⟩
  · omega
  · omega
  · rw [if_pos h] at hrange
    simp only [Bool.and_eq_true, decide_eq_true_eq] at hrange
    omega
  · rw [if_neg h, decide_eq_true_eq] at hrange
    omega

/-- What the manual calls bad is refused (R197). -/
theorem paramOk_bad {p : Params} {g : Sampling} {id v : Nat} (h : badParam p g id v) : paramOk p g id v = false := by
  rcases h with rfl | h | ⟨-, h43, h⟩ | ⟨rfl, h⟩ | ⟨rfl, h⟩ | ⟨rfl, h⟩ | ⟨rfl, h⟩ | ⟨rfl, h⟩ | ⟨rfl, h⟩ | ⟨rfl, h⟩ |
    ⟨rfl, h⟩ | ⟨rfl, h⟩ | ⟨rfl, h⟩
  · rfl
  · rw [paramOk_scan p g v (by omega), scanParamOk_unknown g v h]
  · rw [paramOk, if_pos (by omega), h, Bool.false_and]
  · refine paramOk_joint (by decide) (decide_eq_false ?_)
    rw [setParam_slipOff p v (by decide) (by decide), setParam_slipOn p v (by decide) (by decide)]
    exact Nat.not_lt.2 h
  · refine paramOk_joint (by decide) (decide_eq_false ?_)
    rw [setParam_slipOff p v (by decide) (by decide), setParam_slipOn p v (by decide) (by decide)]
    exact Nat.not_lt.2 h
  · refine paramOk_joint (by decide) (decide_eq_false ?_)
    rw [setParam_holdMin p v (by decide) (by decide), setParam_holdMax p v (by decide) (by decide)]
    exact Nat.not_le.2 h
  · refine paramOk_joint (by decide) (decide_eq_false ?_)
    rw [setParam_holdMin p v (by decide) (by decide), setParam_holdMax p v (by decide) (by decide)]
    exact Nat.not_le.2 h
  · exact decide_eq_false (Nat.not_le.2 h)
  · exact scanParamOk_length h
  · exact scanParamOk_input h
  · exact decide_eq_false (Nat.not_le.2 h)
  · exact scanParamOk_low h
  · exact scanParamOk_high h

/-! ### The outcome and the answer -/

/-- A SET_PARAM is accepted just where it passes every check (R36, R197). -/
theorem setParamCode_accepted_iff (s : State) (configure : Bool) (id v : Nat) :
    setParamCode s configure id v = .accepted ↔ configure = true ∧ s.coord.state = .autoPark ∧
      s.settings.store = none ∧ paramOk s.settings.params s.sampling id v = true := by
  unfold setParamCode
  cases configure with
  | false => simp
  | true =>
    by_cases hst : s.coord.state = .autoPark <;> by_cases hstore : s.settings.store = none <;>
      cases hok : paramOk s.settings.params s.sampling id v <;>
      simp [hst, hstore, ← Option.ne_none_iff_isSome]

theorem setParamCode_state {s : State} (id v : Nat) (h : s.coord.state ≠ .autoPark) :
    setParamCode s true id v = .wrongState := by
  simp [setParamCode, h]

theorem setParamCode_busy {s : State} (id v : Nat) (hst : s.coord.state = .autoPark) (h : s.settings.store ≠ none) :
    setParamCode s true id v = .busy := by
  simp [setParamCode, hst, Option.isSome_iff_ne_none.2 h]

theorem setParamCode_bad {s : State} {id v : Nat} (hst : s.coord.state = .autoPark) (hstore : s.settings.store = none)
    (h : paramOk s.settings.params s.sampling id v = false) : setParamCode s true id v = .badField := by
  simp [setParamCode, hst, hstore, h]

theorem execSetParam_enrolled {s : State} {a : Address} (id : Byte) (v : BitVec 16) (hon : s.port.online = true)
    (hen : s.roster[a].state = .enrolled) :
    exec (.setParam a id v) s = .next (setParamRequest (wellFormed s a) a id v) := by
  rw [exec_setParam, request_enrolled _ _ hon hen]

/-- The outcome reads of the sender's record the configure permission alone. -/
theorem setParamCode_wellFormed (s : State) (a : Address) (id v : Nat) :
    setParamCode (wellFormed s a) (wellFormed s a).roster[a].configure id v =
      setParamCode s s.roster[a].configure id v := by
  rw [wellFormed_record]
  rfl

theorem execSetParam_refused {s : State} {a : Address} {id : Byte} {v : BitVec 16} (hon : s.port.online = true)
    (hen : s.roster[a].state = .enrolled)
    (h : setParamCode s s.roster[a].configure id.toNat v.toNat ≠ .accepted) :
    exec (.setParam a id v) s =
      .next (paramAnswer (wellFormed s a) a id (setParamCode s s.roster[a].configure id.toNat v.toNat)) := by
  rw [execSetParam_enrolled id v hon hen, setParamRequest, setParamCode_wellFormed, if_neg h]

/-- What passes the checks is put in force and answered ACCEPTED (R197). -/
theorem execSetParam_accepted {s : State} {a : Address} {id : Byte} {v : BitVec 16} (hon : s.port.online = true)
    (hen : s.roster[a].state = .enrolled) (hconf : s.roster[a].configure = true) (hst : s.coord.state = .autoPark)
    (hstore : s.settings.store = none) (hok : paramOk s.settings.params s.sampling id.toNat v.toNat = true) :
    exec (.setParam a id v) s =
      .next (paramAnswer (applyParam (wellFormed s a) id.toNat v.toNat) a id .accepted) := by
  rw [execSetParam_enrolled id v hon hen, setParamRequest_accepted]
  rw [setParamCode_wellFormed]
  exact (setParamCode_accepted_iff s _ _ _).2 ⟨hconf, hst, hstore, hok⟩

/-- The frame that answers a SET_PARAM (R48, R197). -/
def paramFrame (s : State) (a : Address) (id : Byte) (code : AnswerCode) : Frame :=
  answerFrame s.table s.settings.params a .setParam id code 0xFF
    (lo8 (valueInForce s.settings.params s.sampling id.toNat)) (hi8 (valueInForce s.settings.params s.sampling id.toNat))

/-- The answer to a SET_PARAM whose effect leaves the roster and the port is the sender's, and joins the queue
(R33, R40, R42). -/
theorem paramAnswer_answers {s t : State} {a : Address} (id : Byte) (code : AnswerCode) (hon : s.port.online = true)
    (hr : t.roster = (wellFormed s a).roster) (hp : t.port = s.port) :
    answersSender s (paramAnswer t a id code) a ∧ queuesAnswer s (paramAnswer t a id code) (paramFrame t a id code) :=
  ⟨answersSender_answer _ _ _ _ _ _ hr hp,
    queuesAnswer_answer _ _ _ _ _ _ _ (by rw [hp]; exact hon) (by rw [hp]) (by rw [hp])⟩

/-- A refused SET_PARAM: the first check that fails gives the code, and nothing changes but the count and the queue. -/
theorem setParam_refuses {a : Address} {id : Byte} {v : BitVec 16} {s : State} (hon : s.port.online = true)
    (hen : s.roster[a].state = .enrolled)
    (h : s.roster[a].configure = false ∨ s.coord.state ≠ .autoPark ∨ s.settings.store ≠ none ∨
      badParam s.settings.params s.sampling id.toNat v.toNat) :
    ∃ (t : State) (f : Frame), exec (.setParam a id v) s = .next t ∧ t = { s with roster := t.roster, port := t.port } ∧
      answersSender s t a ∧ queuesAnswer s t f ∧ f.ident = BitVec.ofNat 11 (0x260 + a.val) ∧ f.b0 = 5 ∧ f.b1 = id ∧
      (s.roster[a].configure = false → f.b2 = 3) ∧
      (s.roster[a].configure = true → s.coord.state ≠ .autoPark → f.b2 = 10) ∧
      (s.roster[a].configure = true → s.coord.state = .autoPark → s.settings.store ≠ none → f.b2 = 11) ∧
      (s.roster[a].configure = true → s.coord.state = .autoPark → s.settings.store = none → f.b2 = 5) ∧
      (∀ j : Fin 43, id.toNat = j.val + 1 →
        f.b6 = BitVec.ofNat 8 s.settings.params[j] ∧ f.b7 = BitVec.ofNat 8 (s.settings.params[j] / 256)) ∧
      (id.toNat = 0 ∨ 49 < id.toNat → f.b6 = 0 ∧ f.b7 = 0) := by
  have hne : setParamCode s s.roster[a].configure id.toNat v.toNat ≠ .accepted := by
    intro hacc
    obtain ⟨hconf, hst, hstore, hok⟩ := (setParamCode_accepted_iff s _ _ _).1 hacc
    rcases h with h | h | h | h
    · rw [hconf] at h; cases h
    · exact h hst
    · exact h hstore
    · rw [paramOk_bad h] at hok; cases hok
  obtain ⟨hsender, hqueue⟩ := paramAnswer_answers (s := s) (t := wellFormed s a) id
    (setParamCode s s.roster[a].configure id.toNat v.toNat) hon rfl rfl
  refine ⟨_, _, execSetParam_refused hon hen hne, rfl, hsender, hqueue, rfl, rfl, rfl, fun hconf => ?_,
    fun hconf hst => ?_, fun hconf hst hstore => ?_, fun hconf hst hstore => ?_, fun j hj => ?_, fun hid => ?_⟩
  · show (setParamCode s s.roster[a].configure id.toNat v.toNat).code = 3
    rw [hconf]
    rfl
  · show (setParamCode s s.roster[a].configure id.toNat v.toNat).code = 10
    rw [hconf, setParamCode_state _ _ hst]
    rfl
  · show (setParamCode s s.roster[a].configure id.toNat v.toNat).code = 11
    rw [hconf, setParamCode_busy _ _ hst hstore]
    rfl
  · show (setParamCode s s.roster[a].configure id.toNat v.toNat).code = 5
    have hbad : badParam s.settings.params s.sampling id.toNat v.toNat := by
      rcases h with h | h | h | h
      · rw [hconf] at h; cases h
      · exact absurd hst h
      · exact absurd hstore h
      · exact h
    rw [hconf, setParamCode_bad hst hstore (paramOk_bad hbad)]
    rfl
  · have hvalue : valueInForce s.settings.params s.sampling id.toNat = s.settings.params[j] := by
      rw [hj]; exact valueInForce_param _ _ j
    exact ⟨congrArg lo8 hvalue, congrArg hi8 hvalue⟩
  · have hvalue := valueInForce_unknown s.settings.params s.sampling hid
    exact ⟨congrArg lo8 hvalue, congrArg hi8 hvalue⟩

/-! ### The write of a parameter -/

/-- The state with the parameter written and nothing yet acting on it. -/
def paramSet (s : State) (id v : Nat) : State :=
  { s with settings := { s.settings with params := setParam s.settings.params id v } }

/-- The state with the parameter written, and what acts on it at once but the enables: targets, HOLD values and spring
cycles (R23, R70, R181). -/
def paramWritten (s : State) (id v : Nat) : State :=
  pruneCycles (lowerHolds (lowerTargets (paramSet s id v) s.settings.params) s.settings.params) s.settings.params

theorem applyParam_written (s : State) {id : Nat} (v : Nat) (h : id ≤ 43) :
    applyParam s id v = enableSources (paramWritten s id v) s.settings.params := if_pos (by omega)

/-- What a parameter write can change (R197). -/
theorem paramWritten_frame (s : State) (id v : Nat) : paramWritten s id v =
    { s with settings := { s.settings with params := setParam s.settings.params id v }
             table := (paramWritten s id v).table
             alloc := { s.alloc with target := (paramWritten s id v).alloc.target }
             coord := { s.coord with springCycles := (paramWritten s id v).coord.springCycles } } := by
  simp only [paramWritten, pruneCycles, lowerHolds, lowerTargets, paramSet]

@[simp] theorem paramWritten_settings (s : State) (id v : Nat) :
    (paramWritten s id v).settings = { s.settings with params := setParam s.settings.params id v } := by
  simp only [paramWritten, pruneCycles, lowerHolds, lowerTargets, paramSet]

@[simp] theorem paramWritten_trip (s : State) (id v : Nat) : (paramWritten s id v).trip = s.trip := by
  simp only [paramWritten, pruneCycles, lowerHolds, lowerTargets, paramSet]

@[simp] theorem paramWritten_circuit (s : State) (id v : Nat) : (paramWritten s id v).circuit = s.circuit := by
  simp only [paramWritten, pruneCycles, lowerHolds, lowerTargets, paramSet]

@[simp] theorem paramWritten_roster (s : State) (id v : Nat) : (paramWritten s id v).roster = s.roster := by
  simp only [paramWritten, pruneCycles, lowerHolds, lowerTargets, paramSet]

@[simp] theorem paramWritten_port (s : State) (id v : Nat) : (paramWritten s id v).port = s.port := by
  simp only [paramWritten, pruneCycles, lowerHolds, lowerTargets, paramSet]

theorem paramWritten_params (s : State) {id : Nat} (v : Nat) (h1 : 1 ≤ id) (h43 : id ≤ 43) (j : Fin 43) :
    (paramWritten s id v).settings.params[j] = if j.val + 1 = id then v else s.settings.params[j] := by
  rw [paramWritten_settings]
  exact setParam_index s.settings.params v h1 h43 j.isLt

/-- A hold_max that is not lowered leaves the table (R23). -/
theorem paramWritten_table {s : State} {id v : Nat} (h1 : 1 ≤ id) (h43 : id ≤ 43)
    (h : id ≠ 31 ∨ s.settings.params.holdMax ≤ v) : (paramWritten s id v).table = s.table := by
  refine if_neg ?_
  show ¬ (setParam s.settings.params id v).holdMax < s.settings.params.holdMax
  rw [setParam_holdMax _ v h1 h43]
  split <;> omega

/-- A lowered Pmax lowers the targets of its axle (R70). -/
theorem paramWritten_target (s : State) {id : Nat} (v : Nat) (h1 : 1 ≤ id) (h43 : id ≤ 43) (c : Channel) :
    (paramWritten s id v).alloc.target[c] =
      if id = (axleOf c).val + 7 ∧ v < s.settings.params.pmax (axleOf c) then min s.alloc.target[c] v
      else s.alloc.target[c] := by
  refine (lowerTargets_target (paramSet s id v) s.settings.params c).trans ?_
  show (if (setParam s.settings.params id v).pmax (axleOf c) < s.settings.params.pmax (axleOf c) then
    min s.alloc.target[c] ((setParam s.settings.params id v).pmax (axleOf c)) else s.alloc.target[c]) = _
  rw [setParam_pmax _ v h1 h43]
  by_cases hid : (axleOf c).val + 7 = id
  · simp only [hid, if_true, true_and]
  · rw [if_neg hid, if_neg (Nat.lt_irrefl _), if_neg fun h => hid h.1.symm]

/-- A changed cycle window drops the entries older than it (R181). -/
theorem paramWritten_springCycles (s : State) {id : Nat} (v : Nat) (h1 : 1 ≤ id) (h43 : id ≤ 43) :
    (paramWritten s id v).coord.springCycles =
      if id = 36 ∧ v ≠ s.settings.params.cycleWindow then
        s.coord.springCycles.filter fun x => (s.clock.ms - x).toNat ≤ v * 1000
      else s.coord.springCycles := by
  show (if (setParam s.settings.params id v).cycleWindow = s.settings.params.cycleWindow then s.coord.springCycles
    else s.coord.springCycles.filter fun x =>
      (s.clock.ms - x).toNat ≤ (setParam s.settings.params id v).cycleWindow * 1000) = _
  rw [setParam_cycleWindow _ v h1 h43]
  by_cases hid : 36 = id
  · subst hid
    by_cases hv : v = s.settings.params.cycleWindow <;> simp [hv]
  · rw [if_neg hid, if_pos rfl, if_neg fun h => hid h.1.symm]

/-- Ids up to 40 are no enables: no source rises and no mode changes (R162). -/
theorem applyParam_plain {s : State} {id : Nat} (v : Nat) (h1 : 1 ≤ id) (h40 : id ≤ 40)
    (h : ∀ k : CircuitId, decideMode s.circuit[k].mode s.circuit[k].causes = s.circuit[k].mode) :
    applyParam s id v = paramWritten s id v := by
  have henabled : s.trip.active.enabled (setParam s.settings.params id v) = s.trip.active.enabled s.settings.params := by
    unfold TripSet.enabled
    rw [setParam_undervoltOn _ v h1 (by omega), setParam_overpressureOn _ v h1 (by omega),
      setParam_scanStallOn _ v h1 (by omega), if_neg (by omega), if_neg (by omega), if_neg (by omega)]
  rw [applyParam_written s v (by omega)]
  refine enableSources_same ?_ fun k => ?_
  · rw [paramWritten_trip, paramWritten_settings]
    exact henabled
  · rw [paramWritten_circuit]
    exact h k

/-- An accepted SET_PARAM of ids 1 to 40. -/
theorem setParam_writes {a : Address} {id : Byte} {v : BitVec 16} {s : State} (hon : s.port.online = true)
    (hen : s.roster[a].state = .enrolled) (hconf : s.roster[a].configure = true) (hst : s.coord.state = .autoPark)
    (hstore : s.settings.store = none) (h1 : 1 ≤ id.toNat) (h40 : id.toNat ≤ 40)
    (hrange : inRange id.toNat v.toNat = true)
    (hslipOn : id.toNat = 21 → s.settings.params.slipOff < v.toNat)
    (hslipOff : id.toNat = 22 → v.toNat < s.settings.params.slipOn)
    (hmin : id.toNat = 30 → v.toNat ≤ s.settings.params.holdMax)
    (hmax : id.toNat = 31 → s.settings.params.holdMin ≤ v.toNat)
    (hmodes : ∀ k : CircuitId, decideMode s.circuit[k].mode s.circuit[k].causes = s.circuit[k].mode) :
    ∃ (t : State) (f : Frame), exec (.setParam a id v) s = .next t ∧
      t = { s with roster := t.roster, port := t.port, settings := t.settings, table := t.table
                   alloc := { s.alloc with target := t.alloc.target }
                   coord := { s.coord with springCycles := t.coord.springCycles } } ∧
      answersSender s t a ∧ queuesAnswer s t f ∧ f.b0 = 5 ∧ f.b1 = id ∧ f.b2 = 0 ∧ f.b6 = v.extractLsb' 0 8 ∧
      f.b7 = v.extractLsb' 8 8 ∧
      t.settings = { s.settings with params := t.settings.params } ∧
      (∀ j : Fin 43, t.settings.params[j] = if j.val + 1 = id.toNat then v.toNat else s.settings.params[j]) ∧
      (id.toNat ≠ 31 ∨ s.settings.params.holdMax ≤ v.toNat → t.table = s.table) ∧
      (∀ c : Channel, t.alloc.target[c] =
        if id.toNat = (axleOf c).val + 7 ∧ v.toNat < s.settings.params.pmax (axleOf c) then
          min s.alloc.target[c] v.toNat
        else s.alloc.target[c]) ∧
      t.coord.springCycles = (if id.toNat = 36 ∧ v.toNat ≠ s.settings.params.cycleWindow then
        s.coord.springCycles.filter (fun x => (s.clock.ms - x).toNat ≤ v.toNat * 1000)
      else s.coord.springCycles) := by
  have h43 : id.toNat ≤ 43 := by omega
  have hok : paramOk s.settings.params s.sampling id.toNat v.toNat = true := by
    rw [paramOk, if_pos (by omega), hrange, jointOk_setParam _ _ h1 h43 hslipOn hslipOff hmin hmax]
    rfl
  have hexec := execSetParam_accepted hon hen hconf hst hstore hok
  rw [applyParam_plain (s := wellFormed s a) _ h1 h40 hmodes] at hexec
  obtain ⟨hsender, hqueue⟩ := paramAnswer_answers (s := s) (t := paramWritten (wellFormed s a) id.toNat v.toNat) id
    .accepted hon (paramWritten_roster _ _ _) (paramWritten_port _ _ _)
  have hframe := paramWritten_frame (wellFormed s a) id.toNat v.toNat
  have hsettings := paramWritten_settings (wellFormed s a) id.toNat v.toNat
  have hparams := paramWritten_params (wellFormed s a) v.toNat h1 h43
  have htable := paramWritten_table (s := wellFormed s a) h1 h43 (v := v.toNat)
  have htarget := paramWritten_target (wellFormed s a) v.toNat h1 h43
  have hcycles := paramWritten_springCycles (wellFormed s a) v.toNat h1 h43
  generalize paramWritten (wellFormed s a) id.toNat v.toNat = u at *
  have hvalue : valueInForce u.settings.params u.sampling id.toNat = v.toNat := by
    rw [hsettings]
    exact valueInForce_written _ _ _ h1 h43
  refine ⟨_, _, hexec, ?_, hsender, hqueue, rfl, rfl, rfl, (congrArg lo8 hvalue).trans (lo8_toNat v),
    (congrArg hi8 hvalue).trans (hi8_toNat v), ?_, hparams, htable, htarget, hcycles⟩
  · rw [hframe]
    rfl
  · show u.settings = { s.settings with params := u.settings.params }
    rw [hsettings]
    rfl

/-! ### The write of an enable -/

/-- The sources that the write of an enable raises: an active one, newly enabled (R162). -/
def enableRise (x : TripSet) (p : Params) (id v : Nat) : TripSet :=
  { cutLine := false
    undervolt := decide (id = 41 ∧ v = 1) && x.undervolt && !p.undervoltOn
    overpressure := decide (id = 42 ∧ v = 1) && x.overpressure && !p.overpressureOn
    scanStall := decide (id = 43 ∧ v = 1) && x.scanStall && !p.scanStallOn }

/-- One enable: the write of its own id raises an active source that was off, and another write raises none. -/
theorem enable_minus (id own : Nat) (on : Prop) [Decidable on] (active old : Bool) :
    ((active && if own = id then decide on else old) && !(active && old)) =
      (decide (id = own ∧ on) && active && !old) := by
  by_cases h : own = id
  · subst h
    cases active <;> cases old <;> simp
  · rw [if_neg h, Bool.and_not_self, decide_eq_false fun hid => h hid.1.symm]
    rfl

theorem bne_zero_of_le_one {v : Nat} (h : v ≤ 1) : (v != 0) = decide (v = 1) := by
  obtain rfl | rfl : v = 0 ∨ v = 1 := by omega
  · rfl
  · rfl

theorem minus_enableRise (x : TripSet) (p : Params) {id v : Nat} (h1 : 1 ≤ id) (h43 : id ≤ 43) (hv : v ≤ 1) :
    (x.enabled (setParam p id v)).minus (x.enabled p) = enableRise x p id v := by
  unfold TripSet.minus TripSet.enabled enableRise
  rw [setParam_undervoltOn p v h1 h43, setParam_overpressureOn p v h1 h43, setParam_scanStallOn p v h1 h43,
    bne_zero_of_le_one hv, enable_minus, enable_minus, enable_minus, Bool.and_not_self]

theorem inRange_enable {id v : Nat} (h41 : 41 ≤ id) (h43 : id ≤ 43) (hv : v ≤ 1) : inRange id v = true := by
  obtain rfl | rfl | rfl : id = 41 ∨ id = 42 ∨ id = 43 := by omega
  all_goals exact decide_eq_true hv

/-- An enable acts on no target, HOLD value or spring cycle. -/
theorem paramWritten_enable (s : State) {id : Nat} (v : Nat) (h41 : 41 ≤ id) (h43 : id ≤ 43) :
    paramWritten s id v = paramSet s id v := by
  have hpmax (axle : Fin 3) : (setParam s.settings.params id v).pmax axle = s.settings.params.pmax axle := by
    rw [setParam_pmax _ v (by omega) h43, if_neg (by omega)]
  have hholds : lowerHolds (paramSet s id v) s.settings.params = paramSet s id v := by
    unfold lowerHolds
    rw [if_neg]
    show ¬ (setParam s.settings.params id v).holdMax < s.settings.params.holdMax
    rw [setParam_holdMax _ v (by omega) h43, if_neg (by omega)]
    exact Nat.lt_irrefl _
  have hcycles : (setParam s.settings.params id v).cycleWindow = s.settings.params.cycleWindow := by
    rw [setParam_cycleWindow _ v (by omega) h43, if_neg (by omega)]
  rw [paramWritten, lowerTargets_same (s := paramSet s id v) hpmax, hholds,
    pruneCycles_same (s := paramSet s id v) hcycles]

theorem applyParam_enable (s : State) {id v : Nat} (h41 : 41 ≤ id) (h43 : id ≤ 43) (hv : v ≤ 1) :
    applyParam s id v =
      settleModes (rise (paramSet s id v) (enableRise s.trip.active s.settings.params id v)) := by
  rw [applyParam_written s v h43, paramWritten_enable s v h41 h43, enableSources,
    ← minus_enableRise s.trip.active s.settings.params (by omega) h43 hv]
  rfl

/-! ### The rise of a source -/

theorem TripSet.eq_none {x : TripSet} (hcut : x.cutLine = false) (huv : x.undervolt = false)
    (hop : x.overpressure = false) (hss : x.scanStall = false) : x = TripSet.none := by
  cases x
  simp_all [TripSet.none]

theorem rise_trip {s : State} {x : TripSet} (h : x.nonempty = true) :
    (rise s x).trip = { s.trip with tripped := true, latched := s.trip.latched.either x } := by
  unfold rise
  rw [h]
  cases htrip : s.trip.tripped with
  | false => simp [enterTrip]
  | true => simp [← htrip]

/-- The trip is a cause of both circuits (R150, R161). -/
theorem rise_circuit {s : State} {x : TripSet} (h : x.nonempty = true) (htrip : s.trip.tripped = false) (k : CircuitId) :
    (rise s x).circuit[k] = { s.circuit[k] with causes := { s.circuit[k].causes with trip := true } } := by
  have hrise : (rise s x).circuit = addTrip s.circuit := by
    simp [rise, h, htrip, enterTrip]
  rw [hrise]
  exact mapAll_get _ _ k

/-- New modes change no more of the circuits than their modes. -/
theorem applyModes_slot (s : State) (mode : CircuitId → Mode) (k : CircuitId) :
    (applyModes s mode).circuit[k] = { s.circuit[k] with mode := mode k } := by
  by_cases hsame : mode 0 = s.circuit[(0 : CircuitId)].mode ∧ mode 1 = s.circuit[(1 : CircuitId)].mode
  · have hk : mode k = s.circuit[k].mode := by
      match k with
      | 0 => exact hsame.1
      | 1 => exact hsame.2
    rw [applyModes_same hsame.1 hsame.2, hk]
  · have hwritten : (applyModes s mode).circuit = (modesWritten s mode).circuit := by
      unfold applyModes
      dsimp only
      rw [if_neg, coordinatorModes_circuit]
      · split
        · exact reevaluateRelease_circuit _
        · rfl
      · intro h
        simp only [Bool.not_eq_true', Bool.or_eq_false_iff, bne_eq_false_iff_eq] at h
        exact hsame ⟨h.1.symm, h.2.symm⟩
    rw [hwritten, modesWritten_circuit, writeModes_slot]

theorem settleModes_slot (s : State) (k : CircuitId) : (settleModes s).circuit[k] =
    { s.circuit[k] with mode := decideMode s.circuit[k].mode s.circuit[k].causes } := applyModes_slot s _ k

theorem decideMode_tripped (m : Mode) {k : Causes} (h : k.trip = true) : decideMode m k ≠ .electronic := by
  have hempty : k.isEmpty = false := by simp [Causes.isEmpty, h]
  unfold decideMode
  rw [hempty]
  split
  · decide
  · decide

theorem backupOn_tripped {s : State} (k : CircuitId) (h : s.trip.tripped = true) : backupOn s k = false := by
  rw [backupOn, h, Bool.not_true, Bool.and_false]

/-- An accepted SET_PARAM of ids 41 to 43. -/
theorem setParam_enables {a : Address} {id : Byte} {v : BitVec 16} {s : State} (hon : s.port.online = true)
    (hen : s.roster[a].state = .enrolled) (hconf : s.roster[a].configure = true) (hst : s.coord.state = .autoPark)
    (hstore : s.settings.store = none) (h41 : 41 ≤ id.toNat) (h43 : id.toNat ≤ 43) (hv : v.toNat ≤ 1)
    (hmodes : ∀ k : CircuitId, decideMode s.circuit[k].mode s.circuit[k].causes = s.circuit[k].mode)
    {risen : TripSet} (hrisen : risen = enableRise s.trip.active s.settings.params id.toNat v.toNat) :
    ∃ t : State, exec (.setParam a id v) s = .next t ∧ t.settings = { s.settings with params := t.settings.params } ∧
      (∀ j : Fin 43, t.settings.params[j] = if j.val + 1 = id.toNat then v.toNat else s.settings.params[j]) ∧
      (risen.undervolt = false → risen.overpressure = false → risen.scanStall = false →
        t = { s with roster := t.roster, port := t.port, settings := t.settings } ∧ answersSender s t a) ∧
      (risen.undervolt = true ∨ risen.overpressure = true ∨ risen.scanStall = true →
        t.trip = { s.trip with
          tripped := true
          latched := { cutLine := s.trip.latched.cutLine
                       undervolt := s.trip.latched.undervolt || risen.undervolt
                       overpressure := s.trip.latched.overpressure || risen.overpressure
                       scanStall := s.trip.latched.scanStall || risen.scanStall } } ∧
        (s.trip.tripped = false → ∀ k : CircuitId, t.circuit[k].causes = { s.circuit[k].causes with trip := true } ∧
          t.circuit[k].mode ≠ .electronic ∧ backupOn t k = false)) := by
  have hok : paramOk s.settings.params s.sampling id.toNat v.toNat = true := by
    rw [paramOk, if_pos (by omega), inRange_enable h41 h43 hv,
      jointOk_setParam _ _ (by omega) h43 (by omega) (by omega) (by omega) (by omega)]
    rfl
  have hexec := execSetParam_accepted hon hen hconf hst hstore hok
  have happly : applyParam (wellFormed s a) id.toNat v.toNat =
      settleModes (rise (paramSet (wellFormed s a) id.toNat v.toNat) risen) := by
    rw [hrisen]
    exact applyParam_enable (wellFormed s a) h41 h43 hv
  have hcut : risen.cutLine = false := by rw [hrisen]; rfl
  rw [happly] at hexec
  refine ⟨_, hexec, ?_, fun j => ?_, fun huv hop hss => ?_, fun hany => ?_⟩
  · simp only [paramAnswer, answer_settings, settleModes_settings, rise_settings]
    rfl
  · simp only [paramAnswer, answer_settings, settleModes_settings, rise_settings]
    exact setParam_index s.settings.params v.toNat (by omega) h43 j.isLt
  · rw [TripSet.eq_none hcut huv hop hss, rise_none,
      settleModes_same (s := paramSet (wellFormed s a) id.toNat v.toNat) hmodes]
    exact ⟨rfl, answersSender_answer _ _ _ _ _ _ rfl rfl⟩
  · have hnonempty : risen.nonempty = true := by
      rcases hany with h | h | h <;> simp [TripSet.nonempty, h]
    have htrip := rise_trip (s := paramSet (wellFormed s a) id.toNat v.toNat) hnonempty
    refine ⟨?_, fun hnormal k => ?_⟩
    · simp only [paramAnswer, answer_trip, settleModes_trip]
      rw [htrip, TripSet.either, hcut, Bool.or_false]
      rfl
    · have hslot := rise_circuit (s := paramSet (wellFormed s a) id.toNat v.toNat) hnonempty hnormal k
      have hsettled := settleModes_slot (rise (paramSet (wellFormed s a) id.toNat v.toNat) risen) k
      rw [hslot] at hsettled
      rw [paramAnswer, answer_circuit, hsettled]
      exact ⟨rfl, decideMode_tripped _ rfl, backupOn_tripped k (by simp only [answer_trip, settleModes_trip, htrip])⟩

/-! ### The scan-list group -/

/-- A write of the scan-list group that passes its check, leaves `g` and shows its value in it (R116, R126 to R128). -/
structure ScanWritten (s : State) (id v : Nat) (g : Sampling) : Prop where
  ok : scanParamOk s.sampling id v = true
  write : writeScanParam s id v = { s with sampling := g }
  value : valueInForce s.settings.params g id = v

/-- A rewritten list drops what the scan in flight has taken and starts from record 0 (R126). -/
theorem rewrite_first {g : Sampling} (now : Nat) (hw : g.watchMode = false) (hlength : 1 ≤ g.length) :
    g.rewrite now = { g with scan := some { record := 0, stop := now + 125 }
                             inputs := mapAll g.inputs fun _ x => x.dropCurrent } := by
  have hnext : g.abort.nextRecord 0 = some 0 := (nextRecord_first (g := g.abort) hw).trans (if_pos hlength)
  rw [Sampling.rewrite, Sampling.start, hnext]
  rfl

theorem put_point_same (records : Vector PointRecord 16) (i : Fin 16) (r : PointRecord) : (put records i r)[i] = r :=
  put_same records i r

theorem scanWritten_selector (s : State) (n : Fin 16) : ScanWritten s 44 n.val { s.sampling with selector := n } where
  ok := decide_eq_true (Nat.le_of_lt_succ n.isLt)
  write := by rw [writeScanParam, dif_pos n.isLt]
  value := rfl

theorem scanWritten_length {s : State} {v : Nat} (hw : s.sampling.watchMode = false) (h12 : 12 ≤ v) (h16 : v ≤ 16)
    (hcovers : ∀ k : Fin 12, ∃ q : Fin 16, q.val < v ∧ s.sampling.records[q].input = k) :
    ScanWritten s 45 v { s.sampling with
      length := v, scan := some { record := 0, stop := s.clock.us + 125 }
      inputs := mapAll s.sampling.inputs fun _ x => x.dropCurrent } where
  ok := by simp [scanParamOk, h12, h16, (coversInputs_iff _ _).2 hcovers]
  write := congrArg (fun g : Sampling => { s with sampling := g })
    (rewrite_first (g := { s.sampling with length := v }) _ hw (Nat.le_trans (by decide) h12))
  value := rfl

section
variable {s : State} (k : Fin 12)

theorem valueInForce_input (p : Params) (g : Sampling) (r : PointRecord) (records : Vector PointRecord 16)
    (hrecords : g.records = put records g.selector (r.withInput k)) : valueInForce p g 46 = k.val := by
  show g.records[g.selector].input.val = k.val
  rw [hrecords, put_point_same, withInput_input]

/-- The edit of a record past the length is no rewrite of the list (R126). -/
theorem scanWritten_inputBeyond (hsel : s.sampling.length ≤ s.sampling.selector.val) :
    ScanWritten s 46 k.val { s.sampling with
      records := put s.sampling.records s.sampling.selector
        (s.sampling.records[s.sampling.selector].withInput k) } where
  ok := by simp [scanParamOk, k.isLt, hsel]
  write := by
    rw [writeScanParam, if_neg (Nat.not_lt.2 hsel)]
    simp only [k.isLt, dite_true, editRecord, alter]
  value := valueInForce_input k _ _ _ _ rfl

theorem scanWritten_inputWithin (hw : s.sampling.watchMode = false)
    (hsel : s.sampling.selector.val < s.sampling.length)
    (hcovers : ∀ i : Fin 12, i ≠ k → ∃ q : Fin 16, q.val < s.sampling.length ∧ q ≠ s.sampling.selector ∧
      s.sampling.records[q].input = i) :
    ScanWritten s 46 k.val { s.sampling with
      records := put s.sampling.records s.sampling.selector (s.sampling.records[s.sampling.selector].withInput k)
      scan := some { record := 0, stop := s.clock.us + 125 }
      inputs := mapAll s.sampling.inputs fun _ x => x.dropCurrent } where
  ok := by simp [scanParamOk, k.isLt, (coversInputs_changed _ k hsel).2 hcovers]
  write := by
    rw [writeScanParam, if_pos hsel]
    simp only [k.isLt, dite_true, editRecord, alter]
    refine congrArg (fun g : Sampling => { s with sampling := g }) (rewrite_first _ ?_ ?_)
    · exact hw
    · exact Nat.lt_of_le_of_lt (Nat.zero_le _) hsel
  value := valueInForce_input k _ _ _ _ rfl

end

theorem scanWritten_watch (s : State) {v : Nat} (hv : v ≤ 1) :
    ScanWritten s 47 v { s.sampling with
      records := put s.sampling.records s.sampling.selector
        { s.sampling.records[s.sampling.selector] with watch := decide (v = 1) } } where
  ok := decide_eq_true hv
  write := by rw [writeScanParam, bne_zero_of_le_one hv]; rfl
  value := by
    refine (congrArg (fun r : PointRecord => if r.watch then 1 else 0) (put_point_same _ _ _)).trans ?_
    obtain rfl | rfl : v = 0 ∨ v = 1 := by omega
    · rfl
    · rfl

theorem scanWritten_low {s : State} {v : Nat} (h6 : 6 ≤ s.sampling.records[s.sampling.selector].input.val)
    (h10 : s.sampling.records[s.sampling.selector].input.val ≤ 10) (hmax : v ≤ 1000)
    (hhigh : v ≤ s.sampling.records[s.sampling.selector].high) :
    ScanWritten s 48 v { s.sampling with
      records := put s.sampling.records s.sampling.selector
        { s.sampling.records[s.sampling.selector] with low := v } } where
  ok := by simp only [scanParamOk, h6, h10, hmax, hhigh, decide_true, Bool.and_true]
  write := rfl
  value := congrArg PointRecord.low (put_point_same _ _ _)

theorem scanWritten_high {s : State} {v : Nat} (h6 : 6 ≤ s.sampling.records[s.sampling.selector].input.val)
    (hlow : s.sampling.records[s.sampling.selector].low ≤ v)
    (hsupply : s.sampling.records[s.sampling.selector].input = 11 → 160 ≤ v ∧ v ≤ 400)
    (hother : s.sampling.records[s.sampling.selector].input ≠ 11 → v ≤ 1000) :
    ScanWritten s 49 v { s.sampling with
      records := put s.sampling.records s.sampling.selector
        { s.sampling.records[s.sampling.selector] with high := v } } where
  ok := by
    simp only [scanParamOk, h6, hlow, decide_true, Bool.true_and]
    split
    · next h => simpa using hsupply h
    · next h => simpa using hother h
  write := rfl
  value := congrArg PointRecord.high (put_point_same _ _ _)

/-- An accepted SET_PARAM of the scan-list group. -/
theorem setParam_scanList {a : Address} {id : Byte} {v : BitVec 16} {g : Sampling} {s : State}
    (hon : s.port.online = true) (hen : s.roster[a].state = .enrolled) (hconf : s.roster[a].configure = true)
    (hst : s.coord.state = .autoPark) (hstore : s.settings.store = none) (h44 : 44 ≤ id.toNat)
    (h : ScanWritten (wellFormed s a) id.toNat v.toNat g) :
    ∃ (t : State) (f : Frame), exec (.setParam a id v) s = .next t ∧
      t = { s with roster := t.roster, port := t.port, sampling := g } ∧ answersSender s t a ∧ queuesAnswer s t f ∧
      f.b0 = 5 ∧ f.b1 = id ∧ f.b2 = 0 ∧ f.b6 = v.extractLsb' 0 8 ∧ f.b7 = v.extractLsb' 8 8 := by
  have hok : paramOk s.settings.params s.sampling id.toNat v.toNat = true := (paramOk_scan _ _ _ h44).trans h.ok
  have hexec := execSetParam_accepted hon hen hconf hst hstore hok
  rw [applyParam, if_neg (by omega), h.write] at hexec
  obtain ⟨hsender, hqueue⟩ := paramAnswer_answers (s := s) (t := { wellFormed s a with sampling := g }) id .accepted
    hon rfl rfl
  exact ⟨_, _, hexec, rfl, hsender, hqueue, rfl, rfl, rfl, (congrArg lo8 h.value).trans (lo8_toNat v),
    (congrArg hi8 h.value).trans (hi8_toNat v)⟩

/-- Settles O22: the checks of R197, then the write of a parameter, of an enable, and of the scan list. -/
theorem setParamWrites : Obligations.SetParamWrites := by
  refine ⟨fun a id v bad s hon hen hbad h => ?_, fun a id v s hon hen hconf hst hstore h1 h40 hrange hon' hoff hmin hmax
    hmodes => setParam_writes hon hen hconf hst hstore h1 h40 hrange hon' hoff hmin hmax hmodes,
    fun a id v risen s hon hen hconf hst hstore h41 h43 hv hmodes hrisen =>
      setParam_enables hon hen hconf hst hstore h41 h43 hv hmodes hrisen,
    fun a id v g r fresh s hon hen hconf hst hstore hw hr hfresh h => ?_⟩
  · exact setParam_refuses hon hen (h.imp_right (Or.imp_right (Or.imp_right hbad.1)))
  · subst hr hfresh
    rcases h with ⟨hid, n, hn, rfl⟩ | ⟨hid, h12, h16, hcovers, rfl⟩ | ⟨hid, k, r', hk, hr', h⟩ | ⟨hid, hv, rfl⟩ |
      ⟨hid, h6, h10, hmax, hhigh, rfl⟩ | ⟨hid, h6, hlow, hsupply, hother, rfl⟩ <;>
      refine setParam_scanList hon hen hconf hst hstore (by omega) ?_ <;> rw [hid]
    · rw [← hn]
      exact scanWritten_selector (wellFormed s a) n
    · exact scanWritten_length (s := wellFormed s a) hw h12 h16 hcovers
    · rw [← hk]
      rw [← withInput_eq] at hr'
      subst hr'
      rcases h with ⟨hsel, rfl⟩ | ⟨hsel, hcovers, rfl⟩
      · exact scanWritten_inputBeyond (s := wellFormed s a) k hsel
      · exact scanWritten_inputWithin (s := wellFormed s a) k hw hsel hcovers
    · exact scanWritten_watch (wellFormed s a) hv
    · exact scanWritten_low (s := wellFormed s a) h6 h10 hmax hhigh
    · exact scanWritten_high (s := wellFormed s a) h6 hlow hsupply hother

end Sys2Proof.Machine
end

section
/-!
PROOFS. The debounced lines and the conversions: what a line change does to its record, what the completion of a conversion
comes to in drive scan, and the obligations on both (R52, R117 to R120, R140, R158, R160).
-/

namespace Sys2Proof.Machine

open Sys2Proof.Safety

-- One theorem after another: elaborated all at once they need more thread stacks than the check's memory limit grants.
set_option Elab.async false

/-! ### Debounced lines (R52) -/

theorem Debounced.change_new {d : Debounced} {active : Bool} (expiry : Nat) (h : d.raw ≠ active) :
    d.change active expiry =
      { raw := active, state := d.state, timer := if active = d.state then none else some expiry } := if_neg h

/-- Settles O32: each line's record changes as `Debounced.change_new` says, and nothing else does. -/
theorem debounceStarts : Obligations.DebounceStarts := by
  intro active s
  constructor
  · intro h
    exact congrArg (fun d => Host.Outcome.next { s with door := d }) (Debounced.change_new _ h)
  · intro h
    exact congrArg (fun d => Host.Outcome.next { s with parkSwitch := d }) (Debounced.change_new _ h)

/-! ### The record after a record (R117, R120) -/

theorem nextRecord_following {g : Sampling} {n : Fin 16} (hw : g.watchMode = false) (hn : n.val < g.length) :
    g.nextRecord n.val = some n := by
  unfold Sampling.nextRecord
  rw [hw, List.find?_eq_some_iff_getElem]
  refine ⟨by simp [hn], n.val, by simp, by simp, fun j hj => ?_⟩
  simp; omega

/-- The list has 16 records, whatever its length says. -/
theorem nextRecord_beyond (g : Sampling) {start : Nat} (h : 16 ≤ start) : g.nextRecord start = none := by
  refine List.find?_eq_none.2 fun i _ => ?_
  simp; omega

/-! ### The completion of a conversion in drive scan (R117 to R120) -/

theorem exec_conversionComplete_due {s : State} {p : ScanPosition} (raw : BitVec 12) (h : s.sampling.scan = some p)
    (hp : p.stop ≤ s.clock.us) : exec (.conversionComplete raw) s =
      .next (takeConversion s p.record (convResult s.sampling s.settings.params s.sampling.records[p.record] raw)) := by
  show Host.Outcome.next (conversionEvent s raw) = _
  unfold conversionEvent
  rw [h]
  exact congrArg _ (if_pos hp)

/-- The sampling unit once a record's result is in the current-scan items of its input (R118). -/
def recorded (g : Sampling) (record : Fin 16) (r : ConvResult) : Sampling :=
  { g with inputs := alter g.inputs g.records[record].input fun x => x.record r }

/-- The state with the result recorded, before its delivery. -/
def withResult (s : State) (record : Fin 16) (r : ConvResult) : State :=
  { s with sampling := recorded s.sampling record r }

/-- The state once a record's result is recorded and delivered (R118, R119). -/
def delivered (s : State) (record : Fin 16) (r : ConvResult) : State :=
  deliver (withResult s record r) s.sampling.records[record].input r

theorem watchEvent_drive (s : State) (input : Fin 12) (r : ConvResult) : watchEvent s false input r = s := by
  unfold watchEvent
  rw [Bool.and_false]
  rfl

/-- The scan after a delivery and its watch event: over where the delivery ended it, completed, or going on (R117, R120). -/
def scannedOn (s : State) (record : Fin 16) : State :=
  if s.sampling.scan.isNone then settleModes s
  else if (advanceScan s record).2 then coordinatorScan (evalOverride (settleModes (advanceScan s record).1))
  else settleModes (advanceScan s record).1

theorem takeConversion_eq (s : State) (record : Fin 16) (r : ConvResult) : takeConversion s record r =
    scannedOn (watchEvent (delivered s record r) s.sampling.watchMode s.sampling.records[record].input r) record := rfl

section
variable {s : State} {record : Fin 16} {r : ConvResult} {n : Fin 16}
  (hw : s.sampling.watchMode = false) (hscan : s.sampling.scan.isNone = false)
  (hsampling : (delivered s record r).sampling = recorded s.sampling record r)
include hw hscan hsampling

/-- In drive scan a delivery that leaves the sampling unit alone is followed by the next conversion or the completion. -/
theorem takeConversion_drive : takeConversion s record r =
    if (advanceScan (delivered s record r) record).2 then
      coordinatorScan (evalOverride (settleModes (advanceScan (delivered s record r) record).1))
    else settleModes (advanceScan (delivered s record r) record).1 := by
  have hgoes : ¬ (delivered s record r).sampling.scan.isNone = true := by
    rw [hsampling]
    exact Bool.eq_false_iff.1 hscan
  rw [takeConversion_eq, hw, watchEvent_drive, scannedOn, if_neg hgoes]

theorem takeConversion_next (hn : n.val = record.val + 1) (hlength : n.val < s.sampling.length) :
    takeConversion s record r = settleModes { delivered s record r with
      sampling := { recorded s.sampling record r with
        scan := some { record := n, stop := (delivered s record r).clock.us + 125 } } } := by
  have hnext : (delivered s record r).sampling.nextRecord (record.val + 1) = some n := by
    rw [hsampling, ← hn]
    exact nextRecord_following hw hlength
  rw [takeConversion_drive hw hscan hsampling, advanceScan, hnext, hsampling]
  rfl

/-- With no record left the completion's readers act on the completed scan (R120; log entry 12). -/
theorem takeConversion_last (hnone : s.sampling.nextRecord (record.val + 1) = none) :
    takeConversion s record r = coordinatorScan (evalOverride (settleModes (driveScanComplete
      { delivered s record r with sampling := (recorded s.sampling record r).complete }
      (recorded s.sampling record r)))) := by
  have hnext : (recorded s.sampling record r).nextRecord (record.val + 1) = none := hnone
  have hdrive : ¬ (recorded s.sampling record r).watchMode = true := Bool.eq_false_iff.1 hw
  rw [takeConversion_drive hw hscan hsampling, advanceScan, hsampling, hnext]
  dsimp only
  rw [if_neg hdrive]
  rfl

end

theorem rise_stallTimer (s : State) (x : TripSet) : (rise s x).trip.stallTimer = s.trip.stallTimer := by
  cases hx : x.nonempty with
  | false => simp [rise, hx]
  | true => rw [rise_trip hx]

/-- Every drive-scan completion restarts the stall timer (R160). -/
theorem driveScanComplete_stallTimer (s : State) (g : Sampling) :
    (driveScanComplete s g).trip.stallTimer = some (s.clock.us + 6000) := by
  unfold driveScanComplete tripScan setActive
  rw [rise_stallTimer]
  simp [msec]

/-! ### A conversion of the rear supply (R119, R140) -/

section
variable {s : State} {record : Fin 16} (r : ConvResult) (h7 : s.sampling.records[record].input = 7)
include h7

theorem delivered_rearSupply :
    delivered s record r = reevaluateRelease (withResult s record r) := by
  unfold delivered deliver
  rw [h7]
  rfl

theorem recorded_rearSupply : supply (recorded s.sampling record r) 1 = r.value.getD (supply s.sampling 1) := by
  have hitems : (recorded s.sampling record r).inputs[7] = s.sampling.inputs[7].record r := by
    unfold recorded
    rw [h7]
    exact alter_same s.sampling.inputs 7 _
  show (recorded s.sampling record r).inputs[7].latestValid = _
  rw [hitems]
  cases hv : r.value with
  | none => simp [InputItems.latestValid, InputItems.record, hv, supply]
  | some v => simp [InputItems.latestValid, InputItems.record, hv]

theorem delivered_rearSupply_sampling : (delivered s record r).sampling = recorded s.sampling record r := by
  rw [delivered_rearSupply r h7, reevaluateRelease_sampling]
  rfl

end

theorem Park.canRelease_iff {p : Park} : p.canRelease = true ↔ p.state = .applied ∨ p.state = .parkFault := by
  simp [Park.canRelease]

theorem reevaluateRelease_frame (s : State) :
    reevaluateRelease s = { s with park := (reevaluateRelease s).park, coord := (reevaluateRelease s).coord } := by
  unfold reevaluateRelease
  split
  · exact evaluateRelease_frame s
  · rfl

theorem reevaluateRelease_free {s : State} (h : s.park.withheld = false) : reevaluateRelease s = s :=
  if_neg (Bool.eq_false_iff.1 h)

theorem reevaluateRelease_releases {s : State} (h : s.park.withheld = true) (hr : s.park.canRelease = true)
    (hc : releaseConditions s = true) : reevaluateRelease s =
      { s with park := s.park.startRelease s.clock.us, coord := s.coord.releaseStarted s.clock.ms } :=
  (if_pos h).trans (evaluateRelease_releases hr hc)

theorem reevaluateRelease_withholds {s : State} (h : s.park.withheld = true) (hr : s.park.canRelease = true)
    (hc : releaseConditions s = false) : reevaluateRelease s =
      { s with coord := s.coord.withheldSet (s.clock.us + sec s.settings.params.withheldLimit) } := by
  have hpark : ({ s.park with withheld := true } : Park) = s.park := by rw [← h]
  rw [reevaluateRelease, if_pos h, evaluateRelease_withholds hr hc, hpark]

theorem releaseConditions_missing {s : State} (h : anyPark s.table = true ∨
    supply s.sampling 1 < s.settings.params.releaseReserve ∨ s.circuit[(1 : CircuitId)].mode ≠ .electronic) :
    releaseConditions s = false := by
  cases hpark : anyPark s.table with
  | true => simp [releaseConditions, hpark]
  | false => exact releaseConditions_not hpark (h.resolve_left (by simp [hpark]))

/-- What the clause of ConversionRecorded on the rear supply says, with the next record `n` that the clause leaves out: the
conversion evaluates a withheld release again with its value, and nothing else but the sampling unit changes. -/
theorem rearSupply_reevaluates {raw : BitVec 12} {p : ScanPosition} {n : Fin 16} {v : Nat} {s : State}
    (hscan : s.sampling.scan = some p) (hp : p.stop ≤ s.clock.us) (hw : s.sampling.watchMode = false)
    (h7 : s.sampling.records[p.record].input = 7) (hn : n.val = p.record.val + 1)
    (hlength : p.record.val + 1 < s.sampling.length) (hv : v = (convert 7 raw).getD (supply s.sampling 1))
    (hstate : s.park.state = .applied ∨ s.park.state = .parkFault)
    (hmodes : ∀ k : CircuitId, decideMode s.circuit[k].mode s.circuit[k].causes = s.circuit[k].mode) :
    ∃ t : State, exec (.conversionComplete raw) s = .next t ∧
      t = { s with sampling := t.sampling, park := t.park, coord := t.coord } ∧ supply t.sampling 1 = v ∧
      (s.park.withheld = false → t.park = s.park ∧ t.coord = s.coord) ∧
      (s.park.withheld = true → anyPark s.table = false ∧ s.settings.params.releaseReserve ≤ v ∧
          s.circuit[1].mode = .electronic →
        t.park = s.park.startRelease s.clock.us ∧ t.coord = s.coord.releaseStarted s.clock.ms) ∧
      (s.park.withheld = true → anyPark s.table = true ∨ v < s.settings.params.releaseReserve ∨
          s.circuit[1].mode ≠ .electronic →
        t.park = s.park ∧
          t.coord = s.coord.withheldSet (s.clock.us + sec s.settings.params.withheldLimit)) := by
  have hexec := exec_conversionComplete_due raw hscan hp
  generalize hr : convResult s.sampling s.settings.params s.sampling.records[p.record] raw = r at hexec
  have hsupply : supply (withResult s p.record r).sampling 1 = v :=
    (recorded_rearSupply r h7).trans (by rw [hv, ← hr, ← h7]; rfl)
  have hcan : (withResult s p.record r).park.canRelease = true := Park.canRelease_iff.2 hstate
  rw [takeConversion_next hw (by rw [hscan]; rfl) (delivered_rearSupply_sampling r h7) hn (hn ▸ hlength),
    delivered_rearSupply r h7, settleModes_same (by simp only [reevaluateRelease_circuit]; exact hmodes)] at hexec
  refine ⟨_, hexec, ?_, hsupply, fun hfree => ?_, ?_, ?_⟩
  · rw [reevaluateRelease_frame (withResult s p.record r)]
    rfl
  · rw [reevaluateRelease_free (s := withResult s p.record r) hfree]
    exact ⟨rfl, rfl⟩
  · rintro hheld ⟨hpark, hreserve, hrear⟩
    rw [reevaluateRelease_releases (s := withResult s p.record r) hheld hcan
      (releaseConditions_of hpark (hsupply.symm ▸ hreserve) hrear)]
    exact ⟨rfl, rfl⟩
  · intro hheld hmissing
    rw [reevaluateRelease_withholds (s := withResult s p.record r) hheld hcan
      (releaseConditions_missing (hsupply.symm ▸ hmissing))]
    exact ⟨rfl, rfl⟩

/-- A position past the array: the scan list says 17 records, so that the conversion in flight of record 15, which names the
rear supply, is not its last, yet no record 16 stands to follow it. -/
def overlongScan : State :=
  { State.reset with
    clock := { State.reset.clock with us := 125 }
    park := { State.reset.park with state := .applied, step := none }
    sampling :=
      { State.reset.sampling with
        length := 17, records := put State.reset.sampling.records 15 (pressurePoint 7)
        scan := some { record := 15, stop := 125 } } }

theorem overlongScan_stallTimer (r : ConvResult) :
    (takeConversion overlongScan 15 r).trip.stallTimer = some 6125 := by
  have hclock : (delivered overlongScan 15 r).clock = overlongScan.clock :=
    (congrArg State.clock (delivered_rearSupply r rfl)).trans (reevaluateRelease_clock _)
  rw [takeConversion_last rfl rfl (delivered_rearSupply_sampling r rfl) (nextRecord_beyond _ (by decide)),
    coordinatorScan_trip, evalOverride_trip, settleModes_trip, driveScanComplete_stallTimer]
  exact congrArg (fun c : Clock => some (c.us + 6000)) hclock

/-- Refutes O42: its clause on the rear supply asks for a record number below the list's length, not for a record of the
array, as its other clauses do by `n : Fin 16`. At a length of 17, which SET_PARAM never writes (R126) but the statement
admits, the conversion of record 15 completes the scan, and the stall timer, which the clause lets stand, is restarted. -/
theorem not_conversionRecorded : ¬ Obligations.ConversionRecorded := by
  intro h
  obtain ⟨-, -, -, -, hrear, -⟩ := h
  obtain ⟨t, hexec, hframe, -⟩ := hrear 2441 { record := 15, stop := 125 } _ overlongScan rfl (by decide) rfl rfl
    (by decide) rfl (.inl rfl) (by decide)
  rw [exec_conversionComplete_due 2441 rfl (by decide)] at hexec
  have ht := Host.Outcome.next.inj hexec
  have hstands : t.trip.stallTimer = some 6000 := congrArg (fun u : State => u.trip.stallTimer) hframe
  have hrestarted : t.trip.stallTimer = some 6125 := by
    rw [← ht]
    exact overlongScan_stallTimer _
  rw [hstands] at hrestarted
  exact absurd hrestarted (by decide)

end Sys2Proof.Machine
end

section
/-!
PROOFS. CLEAR_TRIP in TRIPPED: the circuits and the targets after the modes are decided without TRIP, and the refusal
(R87, R133, R150, R163).
-/

namespace Sys2Proof.Machine

open Sys2Proof.Safety

-- One theorem after another: elaborated all at once they need more thread stacks than the check's memory limit grants.
set_option Elab.async false

/-! ### Targets at a change of modes (R87) -/

theorem comesBack_iff (old new : Mode) : comesBack old new = true ↔ old ≠ .electronic ∧ new = .electronic := by
  simp [comesBack]

theorem writeModes_target (s : State) (mode : CircuitId → Mode) (c : Channel) :
    (writeModes s mode).alloc.target[c] =
      if s.circuit[circuitOf c].mode ≠ .electronic ∧ mode (circuitOf c) = .electronic then
        min (measured s.sampling c) (s.settings.params.pmax (axleOf c))
      else s.alloc.target[c] := by
  simp only [← comesBack_iff]
  exact mapAll_get _ _ c

theorem modesWritten_alloc (s : State) (mode : CircuitId → Mode) :
    (modesWritten s mode).alloc = (writeModes s mode).alloc := by
  unfold modesWritten; split <;> simp

/-- All that new modes can do: nothing where none is new; else they are written, the release is re-evaluated where the rear
circuit changes, and the coordinator takes the change (R151, R152). -/
theorem applyModes_cases (s : State) (mode : CircuitId → Mode) :
    applyModes s mode = s ∧ (∀ k : CircuitId, mode k = s.circuit[k].mode) ∨
    ∃ (u : State) (left : Bool), applyModes s mode = coordinatorModes u left ∧
      (u = modesWritten s mode ∨ u = reevaluateRelease (modesWritten s mode)) := by
  by_cases hsame : s.circuit[(0 : CircuitId)].mode = mode 0 ∧ s.circuit[(1 : CircuitId)].mode = mode 1
  · obtain ⟨h0, h1⟩ := hsame
    exact .inl ⟨applyModes_same h0.symm h1.symm, Fin.forall_fin_two.2 ⟨h0.symm, h1.symm⟩⟩
  · have hchanged : ¬ (!(s.circuit[(0 : CircuitId)].mode != mode 0 || s.circuit[(1 : CircuitId)].mode != mode 1)) =
        true := by simpa using hsame
    refine .inr ⟨_, _, if_neg hchanged, ?_⟩
    split
    · exact .inr rfl
    · exact .inl rfl

/-- Of the readers of the modes only `writeModes` touches the targets: those of the circuits that return (R87). -/
theorem applyModes_target (s : State) (mode : CircuitId → Mode) (c : Channel) :
    (applyModes s mode).alloc.target[c] =
      if s.circuit[circuitOf c].mode ≠ .electronic ∧ mode (circuitOf c) = .electronic then
        min (measured s.sampling c) (s.settings.params.pmax (axleOf c))
      else s.alloc.target[c] := by
  rcases applyModes_cases s mode with ⟨hstands, hsame⟩ | ⟨u, left, h, rfl | rfl⟩
  · rw [hstands, if_neg fun ⟨hout, hback⟩ => hout (hsame _ ▸ hback)]
  · rw [h, coordinatorModes_alloc, modesWritten_alloc, writeModes_target]
  · rw [h, coordinatorModes_alloc, reevaluateRelease_alloc, modesWritten_alloc, writeModes_target]

/-! ### The trip cleared (R150, R163) -/

theorem Causes.isEmpty_iff (k : Causes) : k.isEmpty = true ↔
    k = { starting := false, trip := false, pressureInvalid := false, supplyInvalid := false, pedalLost := false } := by
  cases k
  simp [Causes.isEmpty, and_assoc]

/-- The backup valve of a circuit outside TRIPPED is energised just in ELECTRONIC (R133). -/
theorem backupOn_untripped {s : State} (k : CircuitId) (h : s.trip.tripped = false) :
    backupOn s k = true ↔ s.circuit[k].mode = .electronic := by
  simp [backupOn, h]

theorem removeTrip_slot (v : Vector Circuit 2) (k : CircuitId) :
    (removeTrip v)[k] = { v[k] with causes := { v[k].causes with trip := false } } := mapAll_get _ _ k

theorem clearTrip_trip (s : State) :
    (clearTrip s).trip = { s.trip with tripped := false, latched := TripSet.none } := settleModes_trip _

theorem clearTrip_slot (s : State) (k : CircuitId) : (clearTrip s).circuit[k] =
    { s.circuit[k] with
      causes := { s.circuit[k].causes with trip := false }
      mode := decideMode s.circuit[k].mode { s.circuit[k].causes with trip := false } } := by
  unfold clearTrip
  rw [settleModes_slot, removeTrip_slot]

theorem clearTrip_target (s : State) (c : Channel) : (clearTrip s).alloc.target[c] =
    if s.circuit[circuitOf c].mode ≠ .electronic ∧ (clearTrip s).circuit[circuitOf c].mode = .electronic then
      min (measured s.sampling c) (s.settings.params.pmax (axleOf c))
    else s.alloc.target[c] := by
  rw [clearTrip_slot]
  unfold clearTrip settleModes
  rw [applyModes_target, removeTrip_slot]

/-! ### The request -/

section
variable {s : State} {a : Address} (hon : s.port.online = true) (hen : s.roster[a].state = .enrolled)
  (hconf : s.roster[a].configure = true) (htrip : s.trip.tripped = true)
include hon hen hconf htrip

/-- A CLEAR_TRIP in TRIPPED from a sender with configure permission turns on `clearBlocked` alone. -/
theorem exec_clearTrip_tripped : exec (.clearTrip a) s = .next
    (if clearBlocked s then clearAnswer (wellFormed s a) a .tripCausePresent
     else clearAnswer (clearTrip (wellFormed s a)) a .accepted) := by
  have hrecord : (wellFormed s a).roster[a].configure = true := by rw [wellFormed_record]; exact hconf
  have htripped : (wellFormed s a).trip.tripped = true := htrip
  rw [exec_clearTrip, request_enrolled _ _ hon hen, clearTripRequest, hrecord, htripped]
  rfl

theorem exec_clearTrip_clears (h : clearBlocked s = false) :
    exec (.clearTrip a) s = .next (clearAnswer (clearTrip (wellFormed s a)) a .accepted) := by
  rw [exec_clearTrip_tripped hon hen hconf htrip, h]
  rfl

theorem exec_clearTrip_blocked (h : clearBlocked s = true) :
    exec (.clearTrip a) s = .next (clearAnswer (wellFormed s a) a .tripCausePresent) := by
  rw [exec_clearTrip_tripped hon hen hconf htrip, h]
  rfl

end

/-- Settles O27: by whether a latched source is active and enabled; the answer leaves all that the clear does. -/
theorem tripCleared : Obligations.TripCleared := by
  intro a s hon hen hconf htrip
  refine ⟨fun hfree => ⟨_, exec_clearTrip_clears hon hen hconf htrip hfree, ?_⟩, fun hblocked => ?_⟩
  · have hcleared : (clearAnswer (clearTrip (wellFormed s a)) a .accepted).trip.tripped = false := by
      rw [clearAnswer, answer_trip, clearTrip_trip]
    refine ⟨clearTrip_trip _, fun k => ?_, clearTrip_target (wellFormed s a), ?_⟩
    · have hslot := clearTrip_slot (wellFormed s a) k
      have hcauses := congrArg Circuit.causes hslot
      refine ⟨hcauses, ?_, backupOn_untripped k hcleared⟩
      rw [clearAnswer, answer_circuit, hcauses, congrArg Circuit.mode hslot]
      simp only [decideMode, Causes.isEmpty_iff]
      rfl
    · simp [clearAnswer, clearTrip]
  · refine ⟨_, exec_clearTrip_blocked hon hen hconf htrip hblocked, rfl, answersSender_answer _ _ _ _ _ _ rfl rfl,
      fun hroom => ⟨_, congrArg Port.answers (Port.push_room _ _ hon hroom), rfl⟩⟩

end Sys2Proof.Machine
end

section
/-!
PROOFS. What every operation of the block leaves of the wheel-speed records and of the slip faults, and the obligations that
hold over every command (R89 to R92, R106, R109 to R112).
-/

namespace Sys2Proof.Machine

open Sys2Proof.Safety

-- One theorem after another: elaborated all at once they need more thread stacks than the check's memory limit grants.
set_option Elab.async false

/-! ### Returns to FOLLOW (R109, R110, R112) -/

/-- A slip record after returns to FOLLOW: a group stands or is in FOLLOW, a reapply pressure stands or is 0, and the faults
and the pair stand. -/
structure Slip.Returned (x y : Slip) : Prop where
  group : ∀ g : Fin 5, y.group[g] = x.group[g] ∨ y.group[g] = followGroup
  reapply : ∀ c : Channel, y.reapply[c] = x.reapply[c] ∨ y.reapply[c] = 0
  fault : y.fault = x.fault
  tlJoined : y.tlJoined = x.tlJoined
  trJoined : y.trJoined = x.trJoined

theorem Slip.Returned.refl (x : Slip) : x.Returned x := ⟨fun _ => .inl rfl, fun _ => .inl rfl, rfl, rfl, rfl⟩

theorem Slip.Returned.of_eq {x y : Slip} (h : y = x) : x.Returned y := h ▸ .refl x

theorem Slip.Returned.after {x y z : Slip} (h : y.Returned z) (g : x.Returned y) : x.Returned z where
  group k := (h.group k).elim (fun e => e ▸ g.group k) .inr
  reapply c := (h.reapply c).elim (fun e => e ▸ g.reapply c) .inr
  fault := h.fault.trans g.fault
  tlJoined := h.tlJoined.trans g.tlJoined
  trJoined := h.trJoined.trans g.trJoined

theorem followGroups_group (x : Slip) (chosen : Fin 5 → Bool) (g : Fin 5) :
    (x.followGroups chosen).group[g] = if chosen g then followGroup else x.group[g] := mapAll_get _ _ g

theorem followGroups_reapply (x : Slip) (chosen : Fin 5 → Bool) (c : Channel) :
    (x.followGroups chosen).reapply[c] = if chosen (groupOf c) then 0 else x.reapply[c] := mapAll_get _ _ c

theorem returned_followGroups (x : Slip) (chosen : Fin 5 → Bool) : x.Returned (x.followGroups chosen) where
  group g := by rw [followGroups_group]; split <;> simp
  reapply c := by rw [followGroups_reapply]; split <;> simp
  fault := rfl
  tlJoined := rfl
  trJoined := rfl

/-- A channel that is not of the tag pair. -/
theorem val_lt_of_not_tag {c : Channel} (h4 : c ≠ 4) (h5 : c ≠ 5) : c.val < 4 := by
  rw [ne_eq, Fin.ext_iff] at h4 h5
  change c.val ≠ 4 at h4
  change c.val ≠ 5 at h5
  omega

/-- The phase a channel is reported in: that of its group, where it stands in the group (R108, R113). -/
theorem reportedPhase_eq (x : Slip) (c : Channel) :
    reportedPhase x c = if x.joined c then x.group[groupOf c].phase else .follow := by
  unfold reportedPhase Slip.joined
  by_cases h4 : c = 4
  · subst h4; rfl
  · by_cases h5 : c = 5
    · subst h5; rfl
    · have hv := val_lt_of_not_tag h4 h5
      have hgroup : groupOf c = ⟨c.val, by omega⟩ := Fin.ext (Nat.min_eq_left hv.le)
      simp [h4, h5, hv, hgroup]

/-- A channel that is reported in FOLLOW stays so through returns to FOLLOW. -/
theorem Slip.Returned.follows {x y : Slip} (h : x.Returned y) {c : Channel} (hc : reportedPhase x c = .follow) :
    reportedPhase y c = .follow := by
  have hjoined : y.joined c = x.joined c := by unfold Slip.joined; rw [h.tlJoined, h.trJoined]
  rw [reportedPhase_eq] at hc ⊢
  rw [hjoined]
  split
  · next hj =>
    rw [if_pos hj] at hc
    rcases h.group (groupOf c) with e | e <;> rw [e]
    · exact hc
    · rfl
  · rfl

/-! ### The slip record at a change of circuit modes and of v_ref -/

theorem modesWritten_slip (s : State) (mode : CircuitId → Mode) : (modesWritten s mode).slip = (writeModes s mode).slip := by
  unfold modesWritten; split <;> simp

theorem returned_applyModes (s : State) (mode : CircuitId → Mode) : s.slip.Returned (applyModes s mode).slip := by
  have hwritten : s.slip.Returned (modesWritten s mode).slip := by
    rw [modesWritten_slip]; exact returned_followGroups _ _
  rcases applyModes_cases s mode with ⟨h, -⟩ | ⟨u, left, h, rfl | rfl⟩ <;> rw [h]
  · exact .refl _
  · rw [coordinatorModes_slip]; exact hwritten
  · rw [coordinatorModes_slip, reevaluateRelease_slip]; exact hwritten

theorem returned_completeSecuring (s : State) : s.slip.Returned (completeSecuring s).slip := by
  rw [completeSecuring_eq]
  exact (returned_applyModes _ _).after (.of_eq (setStandstill_slip s .secured))

theorem returned_enterSecuring (s : State) : s.slip.Returned (enterSecuring s).slip := by
  have hbegun : s.slip.Returned (beginSecuring s).slip := .of_eq (beginSecuring_slip s)
  unfold enterSecuring
  dsimp only
  split
  · exact (returned_completeSecuring _).after hbegun
  · exact hbegun

theorem returned_coordinatorSpeed (s : State) (old : Nat) : s.slip.Returned (coordinatorSpeed s old).slip := by
  unfold coordinatorSpeed
  split
  · exact returned_enterSecuring s
  · exact .of_eq (evalDriveOff_slip _)

theorem returned_slipSpeed (s : State) (old : Nat) : s.slip.Returned (slipSpeed s old).slip := by
  unfold slipSpeed
  dsimp only
  split
  · exact returned_followGroups _ _
  · exact .refl _

theorem returned_setReference (s : State) (v : Nat) : s.slip.Returned (setReference s v).slip := by
  unfold setReference
  split
  · exact .refl _
  · exact ((returned_coordinatorSpeed _ _).after (returned_slipSpeed _ _)).after (.of_eq (by simp))

theorem returned_setWheel (s : State) (c : Channel) (w : Wheel) : s.slip.Returned (setWheel s c w).slip := by
  unfold setWheel
  dsimp only
  rw [evalSuspects_slip]
  exact returned_setReference { s with wheel := put s.wheel c w } _

@[simp] theorem applyModes_fault (s : State) (mode : CircuitId → Mode) :
    (applyModes s mode).slip.fault = s.slip.fault := (returned_applyModes s mode).fault

@[simp] theorem settleModes_fault (s : State) : (settleModes s).slip.fault = s.slip.fault := applyModes_fault s _

@[simp] theorem completeSecuring_fault (s : State) : (completeSecuring s).slip.fault = s.slip.fault :=
  (returned_completeSecuring s).fault

@[simp] theorem enterSecuring_fault (s : State) : (enterSecuring s).slip.fault = s.slip.fault :=
  (returned_enterSecuring s).fault

@[simp] theorem setWheel_fault (s : State) (c : Channel) (w : Wheel) : (setWheel s c w).slip.fault = s.slip.fault :=
  (returned_setWheel s c w).fault

@[simp] theorem reportApplied_fault (s : State) : (reportApplied s).slip.fault = s.slip.fault := by
  unfold reportApplied; split <;> simp

/-! ### The records after the record of one wheel changed -/

theorem put_wheel_same (v : Vector Wheel 6) (c : Channel) (w : Wheel) : (put v c w)[c] = w := put_same v c w

theorem put_wheel_other (v : Vector Wheel 6) {c d : Channel} (w : Wheel) (h : d ≠ c) : (put v c w)[d] = v[d] :=
  put_other v c d w (Ne.symm h)

theorem evalSuspects_slot (s : State) (d : Channel) :
    (evalSuspects s).wheel[d] = s.wheel[d].evaluate s.vref s.clock.us := mapAll_get _ _ d

theorem setReference_vref (s : State) (v : Nat) : (setReference s v).vref = v := by
  unfold setReference
  split
  · next h => exact h.symm
  · simp

/-- v_ref after the change of a record is that of the records with the new one among them (R94). -/
theorem setWheel_vref (s : State) (c : Channel) (w : Wheel) : (setWheel s c w).vref = referenceSpeed (put s.wheel c w) := by
  unfold setWheel
  dsimp only
  rw [evalSuspects_vref, setReference_vref]

/-- Every record after the change of one: the new record or the one that stood, its suspect timers evaluated (R95, R96). -/
theorem setWheel_slot (s : State) (c d : Channel) (w : Wheel) :
    (setWheel s c w).wheel[d] = (put s.wheel c w)[d].evaluate (setWheel s c w).vref s.clock.us := by
  rw [setWheel_vref]
  unfold setWheel
  dsimp only
  rw [evalSuspects_slot, setReference_vref, setReference_clock]
  simp only [setReference_wheel]

theorem setWheel_own (s : State) (c : Channel) (w : Wheel) :
    (setWheel s c w).wheel[c] = w.evaluate (setWheel s c w).vref s.clock.us := by
  rw [setWheel_slot, put_wheel_same]

theorem setWheel_other (s : State) {c d : Channel} (w : Wheel) (h : d ≠ c) :
    (setWheel s c w).wheel[d] = s.wheel[d].evaluate (setWheel s c w).vref s.clock.us := by
  rw [setWheel_slot, put_wheel_other _ _ h]

/-! ### The speed of a channel and its SLIP_FAULT over the operations -/

/-- What stands of a channel: its speed, interval and last capture, and a SLIP_FAULT that is set. -/
structure WheelKept (k : Channel) (s t : State) : Prop where
  speed : t.wheel[k].speed = s.wheel[k].speed
  interval : t.wheel[k].interval = s.wheel[k].interval
  lastCapture : t.wheel[k].lastCapture = s.wheel[k].lastCapture
  fault : s.slip.fault[k] = true → t.slip.fault[k] = true

variable {k : Channel}

theorem WheelKept.refl (s : State) : WheelKept k s s := ⟨rfl, rfl, rfl, id⟩

theorem WheelKept.after {s t u : State} (g : WheelKept k t u) (h : WheelKept k s t) : WheelKept k s u :=
  ⟨g.speed.trans h.speed, g.interval.trans h.interval, g.lastCapture.trans h.lastCapture, g.fault ∘ h.fault⟩

/-- A change of other blocks. -/
theorem WheelKept.of_same {s t : State} (hw : t.wheel = s.wheel := by simp)
    (hf : t.slip.fault = s.slip.fault := by simp) : WheelKept k s t :=
  ⟨by rw [hw], by rw [hw], by rw [hw], fun h => by rw [hf]; exact h⟩

/-- A change of other blocks after an operation. -/
theorem WheelKept.same {s t u : State} (h : WheelKept k s t) (hw : u.wheel = t.wheel := by simp)
    (hf : u.slip.fault = t.slip.fault := by simp) : WheelKept k s u := (WheelKept.of_same hw hf).after h

theorem WheelKept.ite {s t u : State} {b : Prop} [Decidable b] (h : WheelKept k s t) (g : WheelKept k s u) :
    WheelKept k s (if b then t else u) := by
  split
  · exact h
  · exact g

theorem WheelKept.when {s t : State} {b : Prop} [Decidable b] (h : WheelKept k s t) :
    WheelKept k s (if b then t else s) := .ite h (.refl s)

/-! ### Operations that do not reach the wheels, and the faults only to leave them -/

theorem wheelKept_answer (s : State) (a : Address) (kind : Kind) (x : Byte) (o : AnswerCode) (u v w : Byte) :
    WheelKept k s (answer s a kind x o u v w) := .of_same

theorem wheelKept_endExercise (s : State) (w : EndReason) : WheelKept k s (endExercise s w) := .of_same

theorem wheelKept_evaluateRelease (s : State) : WheelKept k s (evaluateRelease s) := .of_same

theorem wheelKept_putTable (s : State) (t : Table) : WheelKept k s (putTable s t) := .of_same

theorem wheelKept_settleModes (s : State) : WheelKept k s (settleModes s) := .of_same

theorem wheelKept_rise (s : State) (x : TripSet) : WheelKept k s (rise s x) := .of_same

theorem wheelKept_setActive (s : State) (x : TripSet) : WheelKept k s (setActive s x) := .of_same

theorem wheelKept_reportApplied (s : State) : WheelKept k s (reportApplied s) := .of_same

theorem wheelKept_coordinatorEdge (s : State) (c : Channel) : WheelKept k s (coordinatorEdge s c) := .of_same

theorem wheelKept_coordinatorScan (s : State) : WheelKept k s (coordinatorScan s) := .of_same

theorem wheelKept_coordinatorDrive (s : State) : WheelKept k s (coordinatorDrive s) := .of_same

theorem wheelKept_evalStopHold (s : State) : WheelKept k s (evalStopHold s) := .of_same

theorem wheelKept_considerPromotion (s : State) : WheelKept k s (considerPromotion s) := .of_same

theorem wheelKept_setStandstill (s : State) (st : Standstill) : WheelKept k s (setStandstill s st) := .of_same

theorem wheelKept_handover (s : State) : WheelKept k s (handover s) := .of_same

/-! ### Wheels and slip control -/

/-- A new record of another channel, or one of the same reading, keeps the channel (R92). -/
theorem wheelKept_setWheel (s : State) (c : Channel) (w : Wheel) (hspeed : c = k → w.speed = s.wheel[k].speed)
    (hinterval : c = k → w.interval = s.wheel[k].interval)
    (hlast : c = k → w.lastCapture = s.wheel[k].lastCapture) : WheelKept k s (setWheel s c w) := by
  have hfault : s.slip.fault[k] = true → (setWheel s c w).slip.fault[k] = true := fun h => by
    rw [setWheel_fault]; exact h
  by_cases hc : c = k
  · subst hc
    have hown := setWheel_own s c w
    exact ⟨by rw [hown]; exact hspeed rfl, by rw [hown]; exact hinterval rfl, by rw [hown]; exact hlast rfl, hfault⟩
  · have hother := setWheel_other s (c := c) w (Ne.symm hc)
    exact ⟨by rw [hother]; rfl, by rw [hother]; rfl, by rw [hother]; rfl, hfault⟩

theorem wheelKept_toothEdge (s : State) {c : Channel} (h : c ≠ k) : WheelKept k s (toothEdge s c) :=
  (wheelKept_coordinatorEdge _ c).after (wheelKept_setWheel s c _ (absurd · h) (absurd · h) (absurd · h))

theorem wheelKept_markSuspect (s : State) (c : Channel) : WheelKept k s (markSuspect s c) :=
  (wheelKept_setWheel _ c _ (fun h => by subst h; rfl) (fun h => by subst h; rfl) (fun h => by subst h; rfl)).after
    (.of_same rfl rfl)

theorem wheelKept_clearSuspect (s : State) (c : Channel) : WheelKept k s (clearSuspect s c) :=
  wheelKept_setWheel s c _ (fun h => by subst h; rfl) (fun h => by subst h; rfl) (fun h => by subst h; rfl)

/-- The decision of a group only adds faults (R106). -/
theorem decideOne_fault {s : State} {target : Vector Nat 6} {x : Slip} {g : Fin 5} (h : x.fault[k] = true) :
    (decideOne s target x g).fault[k] = true := by
  by_cases he : s.circuit[groupCircuit g].mode = .electronic
  · rw [decideOne_electronic target x he]
    refine (mapAll_get x.fault _ k).trans ?_
    rw [show x.fault[k.val] = true from h, Bool.true_or]
  · have hskip : decideOne s target x g = x := by
      unfold decideOne
      exact if_pos (by simpa using he)
    rw [hskip]
    exact h

theorem slipPeriod_fault {s : State} (target : Vector Nat 6) (h : s.slip.fault[k] = true) :
    (slipPeriod s target).fault[k] = true := by
  unfold slipPeriod
  have hrejoined : (rejoin s.slip s.wheel).fault[k] = true := h
  revert hrejoined
  generalize rejoin s.slip s.wheel = x
  induction List.finRange 5 generalizing x with
  | nil => exact id
  | cons g l ih => exact fun hx => ih _ (decideOne_fault hx)

theorem allocate_slip (s : State) : (allocate s).slip = slipPeriod s (periodTargets s) := rfl

theorem wheelKept_allocate (s : State) : WheelKept k s (allocate s) where
  speed := by rw [allocate_wheel]
  interval := by rw [allocate_wheel]
  lastCapture := by rw [allocate_wheel]
  fault h := by rw [allocate_slip]; exact slipPeriod_fault _ h

/-! ### Conversions -/

theorem wheelKept_confirmApplied (s : State) : WheelKept k s (confirmApplied s) :=
  have hreported := (wheelKept_reportApplied { s with park :=
    { s.park with state := .applied, step := none, confirmTimer := none, pulses := 0, fault := false } }).after
      (.of_same (s := s) rfl rfl)
  .ite hreported ((wheelKept_evaluateRelease _).after hreported)

theorem wheelKept_parkConversion (s : State) (r : ConvResult) : WheelKept k s (parkConversion s r) := by
  unfold parkConversion
  split
  · exact .refl s
  · exact .ite (.refl s) (.ite (wheelKept_confirmApplied s) (WheelKept.when (.of_same rfl rfl)))

theorem wheelKept_deliver (s : State) (input : Fin 12) (r : ConvResult) : WheelKept k s (deliver s input r) := by
  unfold deliver
  split
  · exact (wheelKept_setActive _ _).after (.of_same rfl rfl)
  · exact .ite .of_same (wheelKept_parkConversion s r).when

theorem wheelKept_watchEvent (s : State) (w : Bool) (input : Fin 12) (r : ConvResult) :
    WheelKept k s (watchEvent s w input r) := .ite (.refl s) (.ite .of_same .of_same)

theorem wheelKept_driveScanComplete (s : State) (g : Sampling) : WheelKept k s (driveScanComplete s g) :=
  (wheelKept_setActive _ _).after (.of_same rfl rfl)

theorem wheelKept_advanceScan (s : State) (r : Fin 16) : WheelKept k s (advanceScan s r).1 := by
  unfold advanceScan
  split
  · exact .of_same rfl rfl
  · dsimp only
    split
    · exact .of_same rfl rfl
    · exact (wheelKept_driveScanComplete _ _).after (.of_same rfl rfl)

theorem wheelKept_scannedOn (s : State) (record : Fin 16) : WheelKept k s (scannedOn s record) :=
  have hscanned := (wheelKept_settleModes _).after (wheelKept_advanceScan s record)
  .ite (wheelKept_settleModes s) (.ite ((wheelKept_coordinatorScan _).after (hscanned.same rfl rfl)) hscanned)

theorem wheelKept_takeConversion (s : State) (record : Fin 16) (r : ConvResult) :
    WheelKept k s (takeConversion s record r) := by
  rw [takeConversion_eq]
  exact (wheelKept_scannedOn _ _).after ((wheelKept_watchEvent _ _ _ _).after
    ((wheelKept_deliver _ _ _).after (.of_same rfl rfl)))

theorem wheelKept_conversionEvent (s : State) (raw : BitVec 12) : WheelKept k s (conversionEvent s raw) := by
  unfold conversionEvent
  split
  · exact (wheelKept_takeConversion s _ _).when
  · exact .refl s

/-! ### Excerpts and transmission -/

theorem wheelKept_fillExcerpts (s : State) : WheelKept k s (fillExcerpts s) := by
  unfold fillExcerpts
  split
  · exact .refl s
  · exact .of_same rfl rfl

theorem wheelKept_finishEmission (s : State) : WheelKept k s (finishEmission s) := by
  unfold finishEmission
  split
  · exact .of_same rfl rfl
  · exact (wheelKept_fillExcerpts _).after (.of_same rfl rfl)

theorem wheelKept_admitExcerpt (s : State) (a : Address) (r : ExcerptRequest) : WheelKept k s (admitExcerpt s a r) :=
  .ite ((wheelKept_answer _ _ _ _ _ _ _ _).after ((wheelKept_fillExcerpts _).after (.of_same rfl rfl)))
    (.ite (.of_same rfl rfl) (.of_same rfl rfl))

/-- A completed frame that no pending restart waits for does not start the block cold (R43, R201). -/
theorem wheelKept_sent (s : State) {x : Transmission} (h : x.restart = false) : WheelKept k s (sent s x) := by
  have hport : WheelKept k s { s with port := s.port.completed x } := .of_same rfl rfl
  unfold sent
  dsimp only
  rw [h, if_neg (by decide)]
  exact .ite (.ite ((wheelKept_finishEmission _).after hport) ((wheelKept_fillExcerpts _).after hport)) hport

/-- A failure that leaves the port ONLINE, or finds no pending restart at it, does not start the block cold (R44, R201). -/
theorem wheelKept_notSent {s : State} (x : Transmission) {why : TransmitFault}
    (h : (s.port.holdsRestart && decide (256 ≤ errorAfter s.port.errorCount why)) = false) :
    WheelKept k s (notSent s x why) := by
  have hport : WheelKept k s { s with port := s.port.failed x why } := .of_same rfl rfl
  unfold notSent
  dsimp only
  split
  · exact hport
  · next hcount =>
    have hoffline : decide (256 ≤ errorAfter s.port.errorCount why) = true := decide_eq_true (Nat.le_of_not_lt hcount)
    rw [hoffline, Bool.and_true] at h
    rw [h, if_neg (by decide)]
    exact hport.same

/-! ### Requests -/

/-- Whatever next state an outcome holds keeps the channel as it stood. -/
def WheelKeptBy (k : Channel) (s : State) (r : Result) : Prop := ∀ t, r = .next t → WheelKept k s t

theorem wheelKeptBy_next {s t : State} (h : WheelKept k s t) : WheelKeptBy k s (.next t) := by
  intro u hu; cases hu; exact h

theorem wheelKeptBy_refused (s : State) (r : Refusal) : WheelKeptBy k s (.refused r) := by
  intro u hu; cases hu

/-- The common path of requests keeps what the act of an ENROLLED sender keeps (R33, R35, R45). -/
theorem wheelKeptBy_request {s absent : State} {a : Address} {act : State → Result} (habs : WheelKept k s absent)
    (hact : ∀ t, t.port = s.port → WheelKeptBy k t (act t)) : WheelKeptBy k s (request s a absent act) := by
  unfold request
  split
  · exact wheelKeptBy_next (.refl s)
  · split
    · exact wheelKeptBy_next habs
    · exact wheelKeptBy_next (.refl s)
    · exact fun u hu => (hact _ (wellFormed_port s a) u hu).after .of_same

theorem wheelKept_takeReply (s : State) (a : Address) (kind : Kind) (cb : Byte) (r : TableReply) :
    WheelKept k s (takeReply s a kind cb r) := .of_same (by simp [takeReply, demandAnswer]) (by simp [takeReply, demandAnswer])

theorem wheelKeptBy_postRequest (s : State) (a : Address) (cb sb life opts gate : Byte) (v : BitVec 16) :
    WheelKeptBy k s (postRequest s a cb sb v life opts gate) := by
  unfold postRequest
  split
  · exact wheelKeptBy_next (.of_same rfl rfl)
  · unfold postAtTable
    split
    · intro u hu; cases hu
    · exact wheelKeptBy_next (wheelKept_takeReply _ _ _ _ _)

theorem wheelKept_refreshRequest (s : State) (a : Address) (cb : Byte) : WheelKept k s (refreshRequest s a cb) := by
  unfold refreshRequest
  split
  · exact .of_same rfl rfl
  · exact wheelKept_takeReply _ _ _ _ _

theorem wheelKept_releaseRequest (s : State) (a : Address) (cb : Byte) : WheelKept k s (releaseRequest s a cb) := by
  unfold releaseRequest
  split
  · exact .of_same rfl rfl
  · exact wheelKept_takeReply _ _ _ _ _

theorem wheelKept_excerptRequest (s : State) (a : Address) (preset start count : Byte) :
    WheelKept k s (excerptRequest s a preset start count) := by
  unfold excerptRequest
  split
  · exact .of_same rfl rfl
  · exact wheelKept_admitExcerpt _ _ _

theorem wheelKept_writeParam (s : State) (id v : Nat) : WheelKept k s (writeParam s id v) :=
  ((wheelKept_settleModes _).after (wheelKept_rise _ _)).after (.of_same rfl rfl)

theorem wheelKept_writeScanParam (s : State) (id v : Nat) : WheelKept k s (writeScanParam s id v) := by
  unfold writeScanParam
  split
  case h_3 => exact .ite (.of_same rfl rfl) (.of_same rfl rfl)
  all_goals exact .of_same rfl rfl

theorem wheelKept_setParamRequest (s : State) (a : Address) (id : Byte) (v : BitVec 16) :
    WheelKept k s (setParamRequest s a id v) :=
  (wheelKept_answer _ _ _ _ _ _ _ _).after
    (WheelKept.when (.ite (wheelKept_writeParam s _ _) (wheelKept_writeScanParam s _ _)))

theorem wheelKept_applyRoster (s : State) (x : Address) (state classes scope configure : Byte) :
    WheelKept k s (applyRoster s x state classes scope configure) := by
  unfold applyRoster
  exact (wheelKept_putTable _ _).after (.of_same rfl rfl)

theorem wheelKept_setRosterRequest (s : State) (a : Address) (target state classes scope configure : Byte) :
    WheelKept k s (setRosterRequest s a target state classes scope configure) := by
  unfold setRosterRequest plainAnswer
  refine (wheelKept_answer _ _ _ _ _ _ _ _).after (WheelKept.when ?_)
  split
  · exact wheelKept_applyRoster _ _ _ _ _ _
  · exact .refl s

theorem wheelKept_storeRequest (s : State) (a : Address) : WheelKept k s (storeRequest s a) :=
  .ite (.of_same rfl rfl) (.ite (.of_same rfl rfl) .of_same)

/-- A RESTART that finds room in the answer queue waits for its answer to be sent (R201). -/
theorem wheelKept_restartRequest {s : State} (a : Address) (h : decide (8 ≤ s.port.answers.length) = false) :
    WheelKept k s (restartRequest s a) := by
  unfold restartRequest
  rw [if_neg (of_decide_eq_false h)]
  exact .ite (.of_same rfl rfl) (.ite (.of_same rfl rfl) (.ite (.of_same rfl rfl) (.of_same rfl rfl)))

theorem wheelKept_clearTripRequest (s : State) (a : Address) : WheelKept k s (clearTripRequest s a) :=
  .ite (.of_same rfl rfl) (.ite (.of_same rfl rfl) (.ite (.of_same rfl rfl)
    ((wheelKept_answer _ _ _ _ _ _ _ _).after ((wheelKept_settleModes _).after (.of_same rfl rfl)))))

theorem wheelKept_exerciseEngine (s : State) (a : Address) (c : Channel) (mode count : Byte) :
    WheelKept k s (exerciseEngine s a c mode count) := by
  unfold exerciseEngine
  split
  · exact .of_same rfl rfl
  · exact .ite (.of_same rfl rfl) (.ite (.of_same rfl rfl) (.of_same rfl rfl))

theorem wheelKept_exerciseRequest (s : State) (a : Address) (channel mode count : Byte) :
    WheelKept k s (exerciseRequest s a channel mode count) := by
  unfold exerciseRequest
  split
  · exact .of_same rfl rfl
  · split
    · exact .ite (wheelKept_exerciseEngine _ _ _ _ _) (.of_same rfl rfl)
    · exact .of_same rfl rfl

theorem wheelKept_stopRequest (s : State) (a : Address) : WheelKept k s (stopRequest s a) :=
  .ite (.of_same rfl rfl) (.ite (.of_same rfl rfl)
    ((wheelKept_answer _ _ _ _ _ _ _ _).after (wheelKept_endExercise s _)))

/-! ### Lines and timers -/

theorem wheelKept_doorSettled (s : State) : WheelKept k s (doorSettled s) :=
  .ite (.of_same rfl rfl) (.ite (.of_same rfl rfl) (.of_same rfl rfl))

theorem wheelKept_switchSettled (s : State) : WheelKept k s (switchSettled s) :=
  .ite (.of_same rfl rfl) (.ite ((wheelKept_putTable _ _).after (.of_same rfl rfl))
    ((wheelKept_putTable _ _).after (.of_same rfl rfl)))

theorem wheelKept_driveChanged (s : State) (active : Bool) : WheelKept k s (driveChanged s active) :=
  (wheelKept_coordinatorDrive _).after (.of_same rfl rfl)

theorem wheelKept_matchSwitch (s : State) : WheelKept k s (matchSwitch s) :=
  .ite (wheelKept_putTable _ _).when (wheelKept_putTable _ _).when

theorem wheelKept_matchDoor (s : State) : WheelKept k s (matchDoor s) := by
  rw [matchDoor_eq]; exact .of_same rfl rfl

theorem wheelKept_returnFromSecuring (s : State) : WheelKept k s (returnFromSecuring s) :=
  (wheelKept_handover _).after (((wheelKept_matchSwitch _).after ((wheelKept_matchDoor _).after
    (wheelKept_setStandstill s _))).same rfl rfl)

/-- Wake leaves the wheel records and slip control as they stand (R26, R89, R106). -/
theorem wheelKept_wake (s : State) : WheelKept k s (wake s) := .of_same (by simp [wake]) (by simp [wake])

theorem wheelKept_ignitionOn (s : State) : WheelKept k s (ignitionOn s) := by
  unfold ignitionOn
  split
  · exact wheelKept_returnFromSecuring s
  · exact wheelKept_wake s
  all_goals exact .of_same rfl rfl

theorem wheelKept_ignitionOff (s : State) : WheelKept k s (ignitionOff s) :=
  .ite (.refl s) (.ite .of_same (.of_same rfl rfl))

theorem wheelKept_ignitionChanged (s : State) (active : Bool) : WheelKept k s (ignitionChanged s active) :=
  .ite ((wheelKept_ignitionOn _).after (.of_same rfl rfl)) ((wheelKept_ignitionOff _).after (.of_same rfl rfl))

theorem wheelKept_cutOutChanged (s : State) (active : Bool) : WheelKept k s (cutOutChanged s active) :=
  (wheelKept_settleModes _).after ((wheelKept_setActive _ _).after (.of_same rfl rfl))

theorem wheelKept_modulationStart (s : State) : WheelKept k s (modulationStart s) :=
  .ite ((wheelKept_endExercise _ _).after (.of_same rfl rfl)) (.of_same rfl rfl)

theorem wheelKept_stallExpired (s : State) : WheelKept k s (stallExpired s) :=
  (wheelKept_settleModes _).after ((wheelKept_setActive _ _).after (.of_same rfl rfl))

theorem wheelKept_retryExpired (s : State) : WheelKept k s (retryExpired s) :=
  .ite (.of_same rfl rfl) (.ite (.of_same rfl rfl)
    ((wheelKept_evaluateRelease _).after (.of_same rfl rfl)))

theorem wheelKept_settleExpired (s : State) : WheelKept k s (settleExpired s) :=
  (wheelKept_evalStopHold _).after (.of_same rfl rfl)

theorem wheelKept_dwellExpired (s : State) : WheelKept k s (dwellExpired s) :=
  .ite ((wheelKept_considerPromotion _).after (.of_same rfl rfl)) (.of_same rfl rfl)

theorem wheelKept_withheldExpired (s : State) : WheelKept k s (withheldExpired s) := .ite .of_same (.of_same rfl rfl)

/-! ### Commands -/

/-- No command but the channel's own edge and timeout, and one that can start cold, touches the channel's speed or clears
its SLIP_FAULT (R92, R106). -/
theorem wheelKeptBy_exec {c : Instr} {s : State} (hcold : startsCold s c = false) (hedge : c ≠ .toothEdge k)
    (htimeout : c ≠ .toothTimeout k) : WheelKeptBy k s (exec c s) := by
  cases c with
  | post a cb sb v life opts gate =>
    exact wheelKeptBy_request (wheelKept_answer _ _ _ _ _ _ _ _) fun t _ => wheelKeptBy_postRequest t a cb sb life opts gate v
  | refresh a cb => exact wheelKeptBy_request (wheelKept_answer _ _ _ _ _ _ _ _) fun t _ =>
      wheelKeptBy_next (wheelKept_refreshRequest t a cb)
  | release a cb => exact wheelKeptBy_request (wheelKept_answer _ _ _ _ _ _ _ _) fun t _ =>
      wheelKeptBy_next (wheelKept_releaseRequest t a cb)
  | excerpt a preset start count =>
    exact wheelKeptBy_request (wheelKept_answer _ _ _ _ _ _ _ _) fun t _ =>
      wheelKeptBy_next (wheelKept_excerptRequest t a preset start count)
  | setParam a id v =>
    exact wheelKeptBy_request (wheelKept_answer _ _ _ _ _ _ _ _) fun t _ =>
      wheelKeptBy_next (wheelKept_setParamRequest t a id v)
  | setRoster a target state classes scope configure =>
    exact wheelKeptBy_request (wheelKept_answer _ _ _ _ _ _ _ _) fun t _ =>
      wheelKeptBy_next (wheelKept_setRosterRequest t a target state classes scope configure)
  | store a => exact wheelKeptBy_request (wheelKept_answer _ _ _ _ _ _ _ _) fun t _ =>
      wheelKeptBy_next (wheelKept_storeRequest t a)
  | clearTrip a => exact wheelKeptBy_request (wheelKept_answer _ _ _ _ _ _ _ _) fun t _ =>
      wheelKeptBy_next (wheelKept_clearTripRequest t a)
  | exercise a channel mode count =>
    exact wheelKeptBy_request (wheelKept_answer _ _ _ _ _ _ _ _) fun t _ =>
      wheelKeptBy_next (wheelKept_exerciseRequest t a channel mode count)
  | exerciseStop a => exact wheelKeptBy_request (wheelKept_answer _ _ _ _ _ _ _ _) fun t _ =>
      wheelKeptBy_next (wheelKept_stopRequest t a)
  | restart a => exact wheelKeptBy_request (wheelKept_answer _ _ _ _ _ _ _ _) fun t ht =>
      wheelKeptBy_next (wheelKept_restartRequest a (by rw [ht]; exact hcold))
  | malformedFrame a code kind =>
    show WheelKeptBy k s (if _ then _ else _)
    split
    · exact wheelKeptBy_next (.of_same rfl rfl)
    · exact wheelKeptBy_refused s _
  | ignoredFrame why =>
    show WheelKeptBy k s (if _ then _ else _)
    split
    · exact wheelKeptBy_next (.refl s)
    · exact wheelKeptBy_refused s _
  | transmitStart =>
    refine wheelKeptBy_next ?_
    split
    · exact .of_same rfl rfl
    · exact .refl s
  | transmitComplete =>
    refine wheelKeptBy_next ?_
    split
    · next x hx =>
      have hrestart : x.restart = false := by simpa [startsCold, hx] using hcold
      exact wheelKept_sent s hrestart
    · exact .refl s
  | transmitFailure why =>
    refine wheelKeptBy_next ?_
    split
    · exact wheelKept_notSent _ hcold
    · exact .refl s
  | coldStart => cases hcold
  | debouncedLineChange line active =>
    refine wheelKeptBy_next ?_
    cases line <;> exact .of_same rfl rfl
  | debounceExpiry line =>
    refine wheelKeptBy_next ?_
    cases line with
    | doorOpen => exact (wheelKept_doorSettled s).when
    | parkSwitch => exact (wheelKept_switchSettled s).when
  | driveRequestChange active => exact wheelKeptBy_next (.ite (.refl s) (wheelKept_driveChanged s active))
  | ignitionChange active => exact wheelKeptBy_next (.ite (.refl s) (wheelKept_ignitionChanged s active))
  | brakeCutOutChange active => exact wheelKeptBy_next (.ite (.refl s) (wheelKept_cutOutChanged s active))
  | toothEdge c => exact wheelKeptBy_next (wheelKept_toothEdge s fun h => hedge (h ▸ rfl))
  | toothTimeout c =>
    have hne : c ≠ k := fun h => htimeout (h ▸ rfl)
    exact wheelKeptBy_next (wheelKept_setWheel s c _ (absurd · hne) (absurd · hne) (absurd · hne)).when
  | suspectSetExpiry c => exact wheelKeptBy_next (wheelKept_markSuspect s c).when
  | suspectClearExpiry c => exact wheelKeptBy_next (wheelKept_clearSuspect s c).when
  | conversionComplete raw => exact wheelKeptBy_next (wheelKept_conversionEvent s raw)
  | allocationPeriod => exact wheelKeptBy_next (wheelKept_allocate s).when
  | holdOverride => exact wheelKeptBy_next (WheelKept.of_same (t := fireOverride s)).when
  | recoveryWaitExpiry => exact wheelKeptBy_next (WheelKept.of_same (t := rejoinBus s)).when
  | modulationPeriodStart => exact wheelKeptBy_next (wheelKept_modulationStart s).when
  | retryTimerExpiry => exact wheelKeptBy_next (wheelKept_retryExpired s).when
  | stallTimerExpiry => exact wheelKeptBy_next (wheelKept_stallExpired s).when
  | settleTimerExpiry => exact wheelKeptBy_next (wheelKept_settleExpired s).when
  | dwellExpiry => exact wheelKeptBy_next (wheelKept_dwellExpired s).when
  | quietWindowExpiry =>
    exact wheelKeptBy_next (WheelKept.when (.ite (.of_same (t := quietExpired s)) (.of_same rfl rfl)))
  | withheldReleaseExpiry => exact wheelKeptBy_next (wheelKept_withheldExpired s).when
  | statusPeriodExpiry => exact wheelKeptBy_next (WheelKept.when (.of_same (t := statusExpired s) rfl rfl))
  | storeComplete =>
    refine wheelKeptBy_next ?_
    split
    · exact WheelKept.when (.of_same rfl rfl)
    · exact .refl s
  | deadlineExpiry _ | muteExpiry _ | scanTriggerExpiry | watchTimerExpiry | modulatorPulseStart _
  | modulatorPulseEnd _ | parkPulseEnd | confirmationWindowExpiry | springCycleEntryExpiry =>
    exact wheelKeptBy_next (.of_same rfl rfl)

/-- Settles O59: what every command but the channel's own edge and timeout keeps. -/
theorem speedStands : Obligations.SpeedStands := by
  unfold Obligations.SpeedStands
  intro c s t k hcold hedge htimeout h
  have hkept := wheelKeptBy_exec hcold hedge htimeout t h
  exact ⟨hkept.speed, hkept.interval, hkept.lastCapture⟩

/-- Settles O58: an edge and a timeout leave the faults, and every other command keeps one that is set. -/
theorem slipFaultStays : Obligations.SlipFaultStays := by
  unfold Obligations.SlipFaultStays
  intro c s t k hcold h hfault
  by_cases hedge : c = .toothEdge k
  · subst hedge
    cases h
    rw [toothEdge, coordinatorEdge_slip, setWheel_fault]
    exact hfault
  · by_cases htimeout : c = .toothTimeout k
    · subst htimeout
      cases h
      split
      · simpa using hfault
      · exact hfault
    · exact (wheelKeptBy_exec hcold hedge htimeout t h).fault hfault

end Sys2Proof.Machine
end

section
/-!
PROOFS. The events of the wheel-speed sensors: an edge, a tooth timeout and the suspect timers, the creep detector and the
rolling record that take an edge, and the obligations on them (R89 to R97, R108, R111, R144, R167 to R177, R187).
-/

namespace Sys2Proof.Machine

open Sys2Proof.Safety

-- One theorem after another: elaborated all at once they need more thread stacks than the check's memory limit grants.
set_option Elab.async false

/-! ### The reference speed (R94) -/

/-- v_ref depends on the speeds and on SENSOR_SUSPECT alone. -/
theorem referenceSpeed_congr {v w : Vector Wheel 6}
    (h : ∀ c : Channel, w[c].suspect = v[c].suspect ∧ w[c].speed = v[c].speed) : referenceSpeed w = referenceSpeed v := by
  unfold referenceSpeed
  congr 1
  funext m c
  rw [(h c).1, (h c).2]

theorem referenceSpeed_evalSuspects (s : State) : referenceSpeed (evalSuspects s).wheel = referenceSpeed s.wheel :=
  referenceSpeed_congr fun c => by rw [evalSuspects_slot]; exact ⟨rfl, rfl⟩

/-- The suspect timers, evaluated at every change of a record, do not touch v_ref. -/
theorem setWheel_reference (s : State) (c : Channel) (w : Wheel) :
    (setWheel s c w).vref = referenceSpeed (setWheel s c w).wheel := by
  rw [setWheel_vref]
  unfold setWheel
  dsimp only
  rw [referenceSpeed_evalSuspects, setReference_wheel]

/-- A new record that leaves v_ref as it is reaches no reader of v_ref. -/
theorem setWheel_standing {s : State} {c : Channel} {w : Wheel} (h : referenceSpeed (put s.wheel c w) = s.vref) :
    setWheel s c w = evalSuspects { s with wheel := put s.wheel c w } := by
  unfold setWheel setReference
  exact congrArg evalSuspects (if_pos h)

/-! ### The record of a channel at its events -/

theorem setWheel_other_stands (s : State) {c d : Channel} (w : Wheel) (h : d ≠ c) :
    (setWheel s c w).wheel[d].speed = s.wheel[d].speed ∧ (setWheel s c w).wheel[d].suspect = s.wheel[d].suspect ∧
      (setWheel s c w).wheel[d].lastCapture = s.wheel[d].lastCapture ∧
      (setWheel s c w).wheel[d].interval = s.wheel[d].interval ∧
      (setWheel s c w).wheel[d].toothTimer = s.wheel[d].toothTimer := by
  rw [setWheel_other s w h]
  exact ⟨rfl, rfl, rfl, rfl, rfl⟩

theorem Wheel.evaluate_setTimer {w : Wheel} (vref now : Nat) (h : w.suspect = true) :
    (w.evaluate vref now).setTimer = none := by
  simp [Wheel.evaluate, Wheel.setCondition, runWhile, h]

theorem Wheel.evaluate_clearTimer {w : Wheel} (vref now : Nat) (h : w.suspect = false) :
    (w.evaluate vref now).clearTimer = none := by
  simp [Wheel.evaluate, Wheel.clearCondition, runWhile, h]

/-- The record of a channel after an edge of its sensor (R90). -/
def edged (s : State) (c : Channel) : Wheel :=
  s.wheel[c].edge s.clock.capture (s.settings.params.circumference (axleOf c)) (s.settings.params.teeth (axleOf c))

theorem exec_toothEdge (c : Channel) (s : State) :
    exec (.toothEdge c) s = .next (toothEdge s c) := rfl

theorem toothEdge_eq (s : State) (c : Channel) : toothEdge s c = coordinatorEdge (setWheel s c (edged s c)) c := rfl

/-- The first edge of a run gives no speed (R90). -/
theorem edged_first {s : State} {c : Channel} (h : s.wheel[c].lastCapture = none) : edged s c =
    { s.wheel[c] with lastCapture := some s.clock.capture, toothTimer := some (s.clock.capture + 200000) } := by
  unfold edged Wheel.edge
  rw [h]
  rfl

/-- The wheel speed of an interval between two captures (R92). -/
theorem speedOf_captures (circumference teeth : Nat) (now last : Capture) :
    speedOf circumference teeth (now - last).toNat =
      if now = last then 1500 else min 1500 (circumference * 36000 / (teeth * (now - last).toNat)) := by
  have hzero : (now - last).toNat = 0 ↔ now = last := by
    constructor
    · intro h; bv_omega
    · intro h; simp [h]
  unfold speedOf
  simp only [hzero]

/-- A later edge of a run gives the interval and the speed (R90, R92). -/
theorem edged_later {s : State} {c : Channel} {l : Capture} (h : s.wheel[c].lastCapture = some l) : edged s c =
    { s.wheel[c] with
      lastCapture := some s.clock.capture, toothTimer := some (s.clock.capture + 200000)
      interval := some (s.clock.capture - l).toNat
      speed := if s.clock.capture = l then 1500
        else min 1500 (s.settings.params.circumference (axleOf c) * 36000 /
          (s.settings.params.teeth (axleOf c) * (s.clock.capture - l).toNat)) } := by
  unfold edged Wheel.edge
  rw [h, ← speedOf_captures]
  rfl

theorem edged_stands (s : State) (c : Channel) : (edged s c).lastCapture = some s.clock.capture ∧
    (edged s c).toothTimer = some (s.clock.capture + 200000) ∧ (edged s c).suspect = s.wheel[c].suspect := by
  cases h : s.wheel[c].lastCapture with
  | none => rw [edged_first h]; exact ⟨rfl, rfl, rfl⟩
  | some l => rw [edged_later h]; exact ⟨rfl, rfl, rfl⟩

/-- The channel's record after an edge is the edged one but for the suspect timers. -/
theorem toothEdge_own (s : State) (c : Channel) :
    (toothEdge s c).wheel[c] = (edged s c).evaluate (setWheel s c (edged s c)).vref s.clock.us := by
  rw [← setWheel_own, toothEdge_eq]
  simp only [coordinatorEdge_wheel]

/-- An edge leaves the records of the other channels but for their suspect timers. -/
theorem toothEdge_other (s : State) {c d : Channel} (h : d ≠ c) :
    (toothEdge s c).wheel[d].speed = s.wheel[d].speed ∧ (toothEdge s c).wheel[d].lastCapture = s.wheel[d].lastCapture ∧
      (toothEdge s c).wheel[d].interval = s.wheel[d].interval ∧ (toothEdge s c).wheel[d].suspect = s.wheel[d].suspect := by
  have hother : (toothEdge s c).wheel[d] = (setWheel s c (edged s c)).wheel[d] := by
    rw [toothEdge_eq]
    simp only [coordinatorEdge_wheel]
  rw [hother, setWheel_other s _ h]
  exact ⟨rfl, rfl, rfl, rfl⟩

/-- What an edge never reaches. -/
theorem toothEdge_frame (s : State) (c : Channel) : (toothEdge s c).roster = s.roster ∧
    (toothEdge s c).settings = s.settings ∧ (toothEdge s c).clock = s.clock ∧ (toothEdge s c).excerpt = s.excerpt ∧
    (toothEdge s c).pedal = s.pedal ∧ (toothEdge s c).lines = s.lines := by
  simp [toothEdge_eq]

/-! ### The tooth timeout (R91) -/

theorem Wheel.toothDue_edged {w : Wheel} {capture : Capture} (h : w.toothTimer = some (capture + 200000)) :
    w.toothDue capture = false := by
  unfold Wheel.toothDue
  rw [h]
  exact decide_eq_false (by bv_omega)

theorem capture_after (x : Capture) : (x - (x - 200000)).toNat = 200000 := by bv_omega

/-- Settles O39: the run ends at the timeout, and the record of an edge taken first is not due. -/
theorem timeoutEndsRun : Obligations.TimeoutEndsRun := by
  unfold Obligations.TimeoutEndsRun
  intro c x s htimer hdue
  have hown := setWheel_own s c s.wheel[c].timeout
  refine ⟨_, exec_toothTimeout_due htimer hdue, by rw [hown]; rfl, by rw [hown]; rfl, by rw [hown]; rfl, by rw [hown]; rfl,
    by rw [hown]; rfl, fun d hd => ?_, by simp, by simp, by simp, ⟨_, exec_toothEdge c _, ?_⟩,
    fun hlast => ⟨_, exec_toothEdge c s, ?_⟩⟩
  · obtain ⟨hspeed, -, -, -, htooth⟩ := setWheel_other_stands s s.wheel[c].timeout hd
    exact ⟨hspeed, htooth⟩
  · have hfirst : (setWheel s c s.wheel[c].timeout).wheel[c].lastCapture = none := by rw [hown]; rfl
    rw [toothEdge_own, edged_first hfirst, hown, setWheel_clock]
    exact ⟨rfl, rfl, rfl⟩
  · have hlater := edged_later hlast
    have hne : s.clock.capture ≠ s.clock.capture - 200000 := by bv_omega
    rw [capture_after, if_neg hne] at hlater
    have hedged := toothEdge_own s c
    have htooth : (toothEdge s c).wheel[c].toothTimer = some (s.clock.capture + 200000) := by
      rw [hedged]; exact (edged_stands s c).2.1
    rw [hlater] at hedged
    refine ⟨by rw [hedged]; rfl, by rw [hedged]; rfl, htooth, ?_⟩
    have hrun : (toothEdge s c).wheel[c].toothDue (toothEdge s c).clock.capture = false := by
      rw [(toothEdge_frame s c).2.2.1]
      exact Wheel.toothDue_edged htooth
    show Host.Outcome.next (if _ then _ else _) = _
    rw [hrun, if_neg Bool.false_ne_true]

/-! ### The suspect timers (R95, R96, R108, R111) -/

/-- A suspect channel that still stands in its group is not of the tag pair, and its group is in FOLLOW. -/
theorem suspectSet_group {x : Slip} {c : Channel} (h : (x.suspectSet c).joined c = true) :
    (x.suspectSet c).group[groupOf c] = followGroup := by
  have h4 : c ≠ 4 := by rintro rfl; simp [Slip.joined, Slip.suspectSet] at h
  have h5 : c ≠ 5 := by rintro rfl; simp [Slip.joined, Slip.suspectSet] at h
  have hput : (x.suspectSet c).group = put x.group (groupOf c) followGroup :=
    if_pos (by simp [val_lt_of_not_tag h4 h5])
  rw [hput]
  exact put_same _ (groupOf c) _

theorem suspectSet_own (x : Slip) (c : Channel) :
    reportedPhase (x.suspectSet c) c = .follow ∧ (x.suspectSet c).reapply[c] = 0 ∧ (x.suspectSet c).fault = x.fault := by
  refine ⟨?_, put_same _ c _, rfl⟩
  rw [reportedPhase_eq]
  split
  · next hj => rw [suspectSet_group hj]; rfl
  · rfl

theorem exec_suspectSet_due {s : State} {c : Channel} {x : Nat} (h : s.wheel[c].setTimer = some x)
    (hx : x ≤ s.clock.us) : exec (.suspectSetExpiry c) s = .next (markSuspect s c) := by
  show Host.Outcome.next _ = _
  rw [h, due_some, if_pos (decide_eq_true hx)]

theorem exec_suspectClear_due {s : State} {c : Channel} {x : Nat} (h : s.wheel[c].clearTimer = some x)
    (hx : x ≤ s.clock.us) : exec (.suspectClearExpiry c) s = .next (clearSuspect s c) := by
  show Host.Outcome.next _ = _
  rw [h, due_some, if_pos (decide_eq_true hx)]

/-- Settles O40: the record of the channel, and slip control through the change of v_ref. -/
theorem suspectTimers : Obligations.SuspectTimers := by
  unfold Obligations.SuspectTimers
  intro c x s hdue
  refine ⟨fun hset => ⟨_, exec_suspectSet_due hset hdue, ?_⟩, fun hclear => ⟨_, exec_suspectClear_due hclear hdue, ?_⟩⟩
  · obtain ⟨hfollow, hreapply, hfault⟩ := suspectSet_own s.slip c
    have hown := setWheel_own { s with slip := s.slip.suspectSet c } c { s.wheel[c] with suspect := true, setTimer := none }
    have hslip := returned_setWheel { s with slip := s.slip.suspectSet c } c
      { s.wheel[c] with suspect := true, setTimer := none }
    unfold markSuspect
    refine ⟨by rw [hown]; rfl, by rw [hown]; exact Wheel.evaluate_setTimer _ _ rfl, by rw [hown]; rfl,
      hslip.follows hfollow, (hslip.reapply c).elim (·.trans hreapply) id, hslip.fault.trans hfault,
      setWheel_reference _ _ _, fun d hd => ?_, by simp, by simp, by simp⟩
    obtain ⟨hspeed, hsuspect, -⟩ := setWheel_other_stands { s with slip := s.slip.suspectSet c }
      { s.wheel[c] with suspect := true, setTimer := none } hd
    exact ⟨hsuspect, hspeed⟩
  · have hown := setWheel_own s c { s.wheel[c] with suspect := false, clearTimer := none }
    unfold clearSuspect
    refine ⟨by rw [hown]; rfl, by rw [hown]; exact Wheel.evaluate_clearTimer _ _ rfl, by rw [hown]; rfl,
      setWheel_reference _ _ _, setWheel_fault _ _ _, fun d hd => ?_, by simp, by simp, by simp⟩
    obtain ⟨hspeed, hsuspect, -⟩ := setWheel_other_stands s { s.wheel[c] with suspect := false, clearTimer := none } hd
    exact ⟨hsuspect, hspeed⟩

end Sys2Proof.Machine
end

section
/-!
PROOFS. The coordinator at a tooth edge: the creep detector in the standstill states it runs in, the rolling record of SECURED,
and the obligation on the edge (R89, R90, R92, R144, R167, R168, R171, R174, R176, R177, R187).
-/

namespace Sys2Proof.Machine

open Sys2Proof.Safety

-- One theorem after another: elaborated all at once they need more thread stacks than the check's memory limit grants.
set_option Elab.async false

/-! ### The edge at the coordinator -/

/-- The standstill states in which the creep detector runs (R168). -/
def Creeping (s : State) : Prop :=
  s.coord.state = .stopHold ∨ s.coord.state = .autoPark ∨ s.coord.state = .creepHold

theorem coordinatorEdge_stands {s : State} (c : Channel) (h : s.coord.state = .run ∨ s.coord.state = .securing) :
    coordinatorEdge s c = s := by
  unfold coordinatorEdge
  rcases h with h | h <;> rw [h]

theorem coordinatorEdge_creeping {s : State} (c : Channel) (h : Creeping s) : coordinatorEdge s c = creepEdge s c := by
  unfold coordinatorEdge
  rcases h with h | h | h <;> rw [h]

theorem coordinatorEdge_secured {s : State} (c : Channel) (h : s.coord.state = .secured) :
    coordinatorEdge s c = rollingEdge s c := by
  unfold coordinatorEdge
  rw [h]

theorem creepEdge_unarmed {s : State} (c : Channel) (h : s.coord.armed = false) : creepEdge s c = s := by
  unfold creepEdge
  rw [h]
  rfl

theorem creepEdge_first {s : State} {c : Channel} (ha : s.coord.armed = true) (h : s.coord.edges[c] = 0) :
    creepEdge s c = { s with coord := { s.coord with edges := put s.coord.edges c 1 } } := by
  unfold creepEdge
  rw [ha, h]
  rfl

theorem creepEdge_second {s : State} {c : Channel} (ha : s.coord.armed = true) (h : 1 ≤ s.coord.edges[c]) :
    creepEdge s c = creepFound s := by
  unfold creepEdge
  rw [ha, if_pos h]
  rfl

/-! ### Slot 3 -/

theorem slotValue_standing {t : Table} {i : Slot} {e : Entry} (h : t[i] = some e) : slotValue t i = e.value.getD 0 := by
  unfold slotValue
  rw [h]
  rfl

theorem slotIs_standing {t : Table} {i : Slot} {e : Entry} (st : EntryState) (h : t[i] = some e) :
    slotIs t i st = decide (e.state = st) := by
  unfold slotIs
  rw [h]

theorem slotIs_vacant {t : Table} {i : Slot} (st : EntryState) (h : t[i] = none) : slotIs t i st = false := by
  unfold slotIs
  rw [h]

theorem clampTo_clampTo (v lo hi : Nat) : clampTo (clampTo v lo hi) lo hi = clampTo v lo hi := by
  unfold clampTo; omega

theorem raiseSlot3_slot3 {s : State} {e : Entry} {v : Nat} (h : s.table[(3 : Slot)] = some e) (hv : e.value = some v) :
    (raiseSlot3 s).table[(3 : Slot)] =
      some { e with value := some (min s.settings.params.holdMax (v + s.settings.params.creepStep)) } := by
  have hval : slotValue s.table 3 = v := by rw [slotValue_standing h, hv]; rfl
  unfold raiseSlot3 homeValue
  rw [hval]
  refine (alter_same s.table 3 _).trans ?_
  rw [show s.table[(3 : Slot).val] = some e from h]
  rfl

theorem raiseSlot3_other (s : State) {j : Slot} (h : j ≠ 3) : (raiseSlot3 s).table[j] = s.table[j] :=
  alter_other s.table 3 j _ (Ne.symm h)

theorem releaseSlot3_other (s : State) {j : Slot} (h : j ≠ 3) : (releaseSlot3 s).table[j] = s.table[j] := by
  unfold releaseSlot3
  dsimp only
  split
  · exact homeRelease_other _ h
  · rfl

theorem handover_other (s : State) {j : Slot} (h : j ≠ 3) : (handover s).table[j] = s.table[j] := by
  unfold handover
  split
  · exact releaseSlot3_other s h
  · rfl

theorem postSlot3_other (s : State) (v : Nat) {j : Slot} (h : j ≠ 3) : (postSlot3 s v).table[j] = s.table[j] :=
  homePost_other _ _ _ _ h

/-! ### Promotion (R173 to R175) -/

/-- A promotion posts slot 4; slot 3 apart, the other slots stand. -/
theorem promote_slot (s : State) {j : Slot} (h : j ≠ 3) :
    (promote s).table[j] = (homePost s.table 4 19 parkFields s.clock.ms)[j] := by
  unfold promote
  rw [handover_other _ h]
  unfold postSlot4
  rw [putTable_table, setStandstill_table, setStandstill_clock]

theorem promote_coord_state (s : State) : (promote s).coord.state = .autoPark := by
  unfold promote postSlot4
  rw [handover_coord, putTable_coord_state, setStandstill_coord_state]

theorem promote_slot4 (s : State) : ∃ p : Entry, (promote s).table[(4 : Slot)] = some p ∧
    (s.table[(4 : Slot)] = none → p.cls = .park) := by
  rw [promote_slot s (by decide)]
  cases h : s.table[(4 : Slot)] with
  | none => rw [homePost_vacant _ _ _ h]; exact ⟨_, put_slot_same _ _ _, fun _ => rfl⟩
  | some e => rw [homePost_standing _ _ _ h]; exact ⟨_, put_slot_same _ _ _, fun hn => by cases hn⟩

/-! ### A creep (R168, R171, R176, R177) -/

/-- The hold that a creep asks for in AUTO_PARK: the creep hold, or the value of an ACTIVE slot 3 where it is the greater
(R176). -/
def creepValue (s : State) : Nat :=
  let v := clampTo s.settings.params.creepHold s.settings.params.holdMin s.settings.params.holdMax
  if slotIs s.table 3 .active then max (slotValue s.table 3) v else v

theorem creepFound_raises {s : State} (h : s.coord.state = .stopHold ∨ s.coord.state = .creepHold)
    (hv : slotValue s.table 3 < s.settings.params.holdMax) : creepFound s = startWindow (raiseSlot3 s) := by
  unfold creepFound
  rcases h with h | h <;> rw [h] <;> exact congrArg startWindow (if_pos hv)

theorem creepFound_promotes {s : State} (h : s.coord.state = .stopHold)
    (hv : s.settings.params.holdMax ≤ slotValue s.table 3) : creepFound s = startWindow (promote s) := by
  unfold creepFound
  rw [h]
  exact congrArg startWindow (if_neg (Nat.not_lt.2 hv))

theorem creepFound_reapplies {s : State} (h : s.coord.state = .creepHold)
    (hv : s.settings.params.holdMax ≤ slotValue s.table 3) : creepFound s = startWindow (reapply s) := by
  unfold creepFound
  rw [h]
  exact congrArg startWindow (if_neg (Nat.not_lt.2 hv))

theorem creepFound_places {s : State} (h : s.coord.state = .autoPark) :
    creepFound s = startWindow (setStandstill (postSlot3 s (creepValue s)) .creepHold) := by
  unfold creepFound
  rw [h]
  rfl

/-- All that a creep can do: slot 3 raised, a promotion, a reapply, or the creep hold placed, and a new window. -/
theorem creepFound_cases {s : State} (h : Creeping s) : ∃ t, creepFound s = startWindow t ∧
    (t = raiseSlot3 s ∨ t = promote s ∨ t = reapply s ∨ t = setStandstill (postSlot3 s (creepValue s)) .creepHold) := by
  rcases Nat.lt_or_ge (slotValue s.table 3) s.settings.params.holdMax with hv | hv
  · rcases h with h | h | h
    · exact ⟨_, creepFound_raises (.inl h) hv, .inl rfl⟩
    · exact ⟨_, creepFound_places h, .inr (.inr (.inr rfl))⟩
    · exact ⟨_, creepFound_raises (.inr h) hv, .inl rfl⟩
  · rcases h with h | h | h
    · exact ⟨_, creepFound_promotes h hv, .inr (.inl rfl)⟩
    · exact ⟨_, creepFound_places h, .inr (.inr (.inr rfl))⟩
    · exact ⟨_, creepFound_reapplies h hv, .inr (.inr (.inl rfl))⟩

/-- The window that a creep starts, and the slots it does not reach. -/
theorem creepFound_window {s : State} (h : Creeping s) :
    (creepFound s).coord.quietTimer = some (s.clock.us + s.settings.params.quietWindow * 1000000) ∧
    (creepFound s).coord.edges = Vector.replicate 6 0 ∧ (creepFound s).coord.armed = decide (s.vref = 0) ∧
    ∀ j : Slot, j ≠ 3 → j ≠ 4 → (creepFound s).table[j] = s.table[j] := by
  obtain ⟨t, ht, hcases⟩ := creepFound_cases h
  have hframe : t.clock = s.clock ∧ t.settings = s.settings ∧ t.vref = s.vref := by
    rcases hcases with rfl | rfl | rfl | rfl <;> simp
  obtain ⟨hclock, hsettings, hvref⟩ := hframe
  rw [ht]
  refine ⟨?_, rfl, ?_, fun j h3 h4 => ?_⟩
  · rw [← hclock, ← hsettings]; rfl
  · rw [← hvref]; rfl
  · rw [startWindow_table]
    rcases hcases with rfl | rfl | rfl | rfl
    · exact raiseSlot3_other s h3
    · rw [promote_slot s h3, homePost_other _ _ _ _ h4]
    · rw [reapply_table]
    · rw [setStandstill_table, postSlot3_other s _ h3]

theorem creepFound_slot3_raised {s : State} {e : Entry} {v : Nat} (he : s.table[(3 : Slot)] = some e)
    (hval : e.value = some v) (h : s.coord.state = .stopHold ∨ s.coord.state = .creepHold)
    (hv : v < s.settings.params.holdMax) :
    (creepFound s).coord.state = s.coord.state ∧ (creepFound s).park = s.park ∧
      (creepFound s).table[(4 : Slot)] = s.table[(4 : Slot)] ∧
      (creepFound s).table[(3 : Slot)] =
        some { e with value := some (min s.settings.params.holdMax (v + s.settings.params.creepStep)) } := by
  have hslot : slotValue s.table 3 = v := by rw [slotValue_standing he, hval]; rfl
  rw [creepFound_raises h (by rw [hslot]; exact hv), startWindow_table, startWindow_park]
  exact ⟨rfl, rfl, raiseSlot3_other s (by decide), raiseSlot3_slot3 he hval⟩

/-- A reapply request where the park valve can take it (R144). -/
theorem reapply_starts {s : State} (h : s.park.state = .applied ∨ s.park.state = .parkFault) :
    (reapply s).park = { s.park with state := .applying, step := some .pulse, pulses := 1
                                     pulseTimer := some (s.clock.us + 150000), confirmTimer := none
                                     retryTimer := none, applyPending := false } :=
  if_pos (Park.canRelease_iff.2 h)

theorem reapply_stands {s : State} (h1 : s.park.state ≠ .applied) (h2 : s.park.state ≠ .parkFault) :
    (reapply s).park = s.park :=
  if_neg fun hc => (Park.canRelease_iff.1 hc).elim h1 h2

/-- At hold_max a creep promotes in STOP_HOLD, and asks for a reapply in CREEP_HOLD (R171, R174, R177). -/
theorem creepFound_at_holdMax {s : State} {e : Entry} {v : Nat} (he : s.table[(3 : Slot)] = some e)
    (hval : e.value = some v) (hv : s.settings.params.holdMax ≤ v) :
    (s.coord.state = .stopHold → (creepFound s).coord.state = .autoPark ∧
      ∃ p : Entry, (creepFound s).table[(4 : Slot)] = some p ∧ (s.table[(4 : Slot)] = none → p.cls = .park)) ∧
    (s.coord.state = .creepHold → (creepFound s).coord.state = .creepHold ∧ (creepFound s).table = s.table ∧
      (s.park.state = .applied ∨ s.park.state = .parkFault →
        (creepFound s).park = { s.park with state := .applying, step := some .pulse, pulses := 1
                                            pulseTimer := some (s.clock.us + 150000), confirmTimer := none
                                            retryTimer := none, applyPending := false })) := by
  have hslot : s.settings.params.holdMax ≤ slotValue s.table 3 := by
    rw [slotValue_standing he, hval]; exact hv
  refine ⟨fun h => ?_, fun h => ?_⟩
  · rw [creepFound_promotes h hslot, startWindow_table]
    exact ⟨promote_coord_state s, promote_slot4 s⟩
  · rw [creepFound_reapplies h hslot, startWindow_table, reapply_table, startWindow_park]
    exact ⟨h, rfl, reapply_starts⟩

/-- In AUTO_PARK a creep posts slot 3 with the creep value and enters CREEP_HOLD (R176). -/
theorem creepFound_autoPark {s : State} (h : s.coord.state = .autoPark) :
    (creepFound s).coord.state = .creepHold ∧ (creepFound s).park = s.park ∧
      (creepFound s).table[(4 : Slot)] = s.table[(4 : Slot)] ∧
      (creepFound s).table = homePost s.table 3 19
        (holdFields (clampTo (creepValue s) s.settings.params.holdMin s.settings.params.holdMax)) s.clock.ms := by
  rw [creepFound_places h, startWindow_table, startWindow_park, setStandstill_park, setStandstill_table, postSlot3_park]
  exact ⟨rfl, rfl, postSlot3_other s _ (by decide), rfl⟩

theorem creepFound_vacant {s : State} (h : s.coord.state = .autoPark) (he : s.table[(3 : Slot)] = none) :
    (creepFound s).table[(3 : Slot)] = some
      { source := 19, cls := .hold, scope := 0b111111#6
        value := some (clampTo s.settings.params.creepHold s.settings.params.holdMin s.settings.params.holdMax)
        lifetime := none, deadline := none, policy := .rampOut, gate := none, state := .active, blend := 0 } := by
  obtain ⟨-, -, -, htable⟩ := creepFound_autoPark h
  have hvalue : creepValue s =
      clampTo s.settings.params.creepHold s.settings.params.holdMin s.settings.params.holdMax :=
    if_neg (by rw [slotIs_vacant _ he]; decide)
  rw [htable, homePost_vacant _ _ _ he, put_slot_same, hvalue, clampTo_clampTo]
  rfl

theorem creepFound_standing {s : State} {e : Entry} (h : s.coord.state = .autoPark) (he : s.table[(3 : Slot)] = some e) :
    (creepFound s).table[(3 : Slot)] = some { e with
      scope := 0b111111#6, lifetime := none, deadline := none, policy := .rampOut, gate := none, state := .active
      value := some (if e.state = .active then
        clampTo (max (e.value.getD 0)
          (clampTo s.settings.params.creepHold s.settings.params.holdMin s.settings.params.holdMax))
          s.settings.params.holdMin s.settings.params.holdMax
        else clampTo s.settings.params.creepHold s.settings.params.holdMin s.settings.params.holdMax) } := by
  obtain ⟨-, -, -, htable⟩ := creepFound_autoPark h
  rw [htable, homePost_standing _ _ _ he, put_slot_same]
  unfold creepValue
  rw [slotIs_standing _ he, slotValue_standing he]
  by_cases hact : e.state = .active
  · simp only [hact, decide_true, if_true]
    rfl
  · simp only [hact, decide_false, Bool.false_eq_true, if_false, clampTo_clampTo]
    rfl

/-! ### The rolling record (R187) -/

/-- A change of v_ref finds nothing to do at the coordinator in SECURED (R169, R178, R182). -/
theorem coordinatorSpeed_secured {s : State} (old : Nat) (h : s.coord.state = .secured) : coordinatorSpeed s old = s := by
  have hsettle (expiry : Nat) : s.coord.settle expiry old s.vref = s.coord := by
    unfold Coordinator.settle
    rw [h]
    rfl
  have hdrive : driveOffConditions s = false := by simp [driveOffConditions, h]
  unfold coordinatorSpeed evalDriveOff
  rw [securingOrSecured_of (.inr h), Bool.not_true, Bool.and_false, if_neg Bool.false_ne_true, hsettle]
  exact if_neg (by rw [hdrive]; exact Bool.false_ne_true)

/-- A new wheel record leaves the coordinator, the park valve and the status broadcaster of a SECURED bus. -/
theorem setWheel_secured {s : State} (c : Channel) (w : Wheel) (h : s.coord.state = .secured) :
    (setWheel s c w).coord = s.coord ∧ (setWheel s c w).park = s.park ∧ (setWheel s c w).status = s.status := by
  unfold setWheel
  dsimp only
  rw [evalSuspects_coord, evalSuspects_park, evalSuspects_status]
  unfold setReference
  split
  · exact ⟨rfl, rfl, rfl⟩
  · rw [coordinatorSpeed_secured _ (by simpa using h)]
    simp

theorem rollingEdge_joins {s : State} {c : Channel} {kept : List Nat}
    (hkept : kept = s.coord.rolling[c].filter fun x => s.clock.us ≤ x + 2000000) (h : kept.length < 3) :
    rollingEdge s c =
      { s with coord := { s.coord with rolling := put s.coord.rolling c (kept ++ [s.clock.us]) } } := by
  subst hkept
  exact if_neg (Nat.not_le.2 h)

theorem rollingEdge_rolls {s : State} {c : Channel} {kept : List Nat}
    (hkept : kept = s.coord.rolling[c].filter fun x => s.clock.us ≤ x + 2000000) (h : 3 ≤ kept.length) :
    rollingEdge s c = rollingFound s := by
  subst hkept
  exact if_pos h

theorem rollingFound_spec (s : State) :
    (rollingFound s).coord = { s.coord with rollingSecured := true, rolling := Vector.replicate 6 [] } ∧
    (rollingFound s).status = { s.status with lastPage := s.status.lastPage + 1 } ∧
    (rollingFound s).park = (reapply s).park := by
  unfold rollingFound
  rw [formStatus_coord, formStatus_park]
  exact ⟨rfl, rfl, rfl⟩

/-! ### The tooth edge -/

/-- The state after an edge that leaves v_ref as it is, before the coordinator takes it. -/
def steadyEdge (s : State) (c : Channel) : State := evalSuspects { s with wheel := put s.wheel c (edged s c) }

/-- The speed of a channel after an edge, the first of a run or a later one (R90, R92). -/
theorem edged_speed (s : State) (c : Channel) : (edged s c).speed = match s.wheel[c].lastCapture with
    | none => s.wheel[c].speed
    | some l =>
        if s.clock.capture = l then 1500
        else min 1500 (s.settings.params.circumference (axleOf c) * 36000 /
          (s.settings.params.teeth (axleOf c) * (s.clock.capture - l).toNat)) := by
  cases h : s.wheel[c].lastCapture with
  | none => rw [edged_first h]
  | some l => rw [edged_later h]

theorem toothEdge_steady {s : State} {c : Channel}
    (h : s.vref = referenceSpeed (put s.wheel c { s.wheel[c] with speed := (edged s c).speed })) :
    toothEdge s c = coordinatorEdge (steadyEdge s c) c := by
  have hreference : referenceSpeed (put s.wheel c (edged s c)) = s.vref := by
    rw [h]
    refine referenceSpeed_congr fun d => ?_
    by_cases hd : d = c
    · subst hd
      rw [put_wheel_same, put_wheel_same]
      exact ⟨(edged_stands s d).2.2, rfl⟩
    · rw [put_wheel_other _ _ hd, put_wheel_other _ _ hd]
      exact ⟨rfl, rfl⟩
  rw [toothEdge_eq, setWheel_standing hreference]
  rfl

/-- The second edge of a channel in an armed window is a creep. -/
theorem toothEdge_creep {s : State} {c : Channel} (hsteady : toothEdge s c = coordinatorEdge (steadyEdge s c) c)
    (hcreep : Creeping s) (ha : s.coord.armed = true) (h : 1 ≤ s.coord.edges[c]) :
    toothEdge s c = creepFound (steadyEdge s c) :=
  hsteady.trans ((coordinatorEdge_creeping (s := steadyEdge s c) c hcreep).trans
    (creepEdge_second (s := steadyEdge s c) ha h))

/-- Settles O38: the record of the channel, the creep detector by its states and its window, and the rolling record. -/
theorem edgeGivesSpeed : Obligations.EdgeGivesSpeed := by
  unfold Obligations.EdgeGivesSpeed
  refine ⟨fun c s => ?_, fun c speed placed s hspeed hvref hplaced => ?_, fun c kept s hsec hkept => ?_⟩
  · obtain ⟨hcapture, htooth, hsuspect⟩ := edged_stands s c
    have hown := toothEdge_own s c
    refine ⟨_, exec_toothEdge c s, by rw [hown]; exact hcapture, by rw [hown]; exact htooth, fun hnone => ?_,
      fun l hl => ?_, fun d hd => toothEdge_other s hd, by rw [hown]; exact hsuspect, toothEdge_frame s c⟩
    · rw [hown, edged_first hnone]; exact ⟨rfl, rfl⟩
    · rw [hown, edged_later hl]; exact ⟨rfl, rfl⟩
  · have hsteady : toothEdge s c = coordinatorEdge (steadyEdge s c) c :=
      toothEdge_steady (by rw [edged_speed]; subst hspeed; exact hvref)
    refine ⟨_, exec_toothEdge c s, by rw [hsteady]; simp [steadyEdge], fun hstands => ?_, fun hcreep => ⟨fun ha => ?_,
      fun ha h0 => ?_, fun ha h1 => ?_⟩⟩
    · rw [hsteady, coordinatorEdge_stands (s := steadyEdge s c) c hstands]
      exact ⟨rfl, rfl, rfl⟩
    · rw [hsteady, coordinatorEdge_creeping (s := steadyEdge s c) c hcreep,
        creepEdge_unarmed (s := steadyEdge s c) c ha]
      exact ⟨rfl, rfl, rfl⟩
    · rw [hsteady, coordinatorEdge_creeping (s := steadyEdge s c) c hcreep,
        creepEdge_first (s := steadyEdge s c) ha h0]
      exact ⟨rfl, rfl, rfl⟩
    · rw [toothEdge_creep hsteady hcreep ha h1]
      obtain ⟨hquiet, hedges, harmed, hslots⟩ := creepFound_window (s := steadyEdge s c) hcreep
      subst hplaced
      refine ⟨hquiet, hedges, harmed, hslots, fun e v he hv hnot hlt => ?_, fun e v he hv hge => ?_,
        fun hauto hnone => ?_, fun e hauto he _ => ?_⟩
      · have hst : s.coord.state = .stopHold ∨ s.coord.state = .creepHold :=
          hcreep.imp_right fun h => h.resolve_left hnot
        exact creepFound_slot3_raised (s := steadyEdge s c) he hv hst hlt
      · exact creepFound_at_holdMax (s := steadyEdge s c) he hv hge
      · obtain ⟨hstate, hpark, hslot4, -⟩ := creepFound_autoPark (s := steadyEdge s c) hauto
        exact ⟨hstate, hpark, hslot4, creepFound_vacant (s := steadyEdge s c) hauto hnone⟩
      · obtain ⟨hstate, hpark, hslot4, -⟩ := creepFound_autoPark (s := steadyEdge s c) hauto
        exact ⟨hstate, hpark, hslot4, creepFound_standing (s := steadyEdge s c) hauto he⟩
  · obtain ⟨hcoord, hpark, hstatus⟩ := setWheel_secured c (edged s c) hsec
    have hclock : (setWheel s c (edged s c)).clock = s.clock := setWheel_clock _ _ _
    have hrolls : toothEdge s c = rollingEdge (setWheel s c (edged s c)) c :=
      coordinatorEdge_secured (s := setWheel s c (edged s c)) c (by rw [hcoord]; exact hsec)
    rw [← hcoord, ← hclock] at hkept
    refine ⟨_, exec_toothEdge c s, fun hfew => ?_, fun hmany => ?_⟩
    · rw [hrolls, rollingEdge_joins hkept hfew, ← hcoord, ← hpark, ← hstatus, ← hclock]
      exact ⟨rfl, rfl, rfl⟩
    · obtain ⟨hfound, hform, hreapply⟩ := rollingFound_spec (setWheel s c (edged s c))
      rw [hrolls, rollingEdge_rolls hkept hmany, hfound, hform, hreapply, ← hcoord, ← hpark, ← hstatus, ← hclock]
      exact ⟨rfl, rfl, reapply_starts, reapply_stands⟩

end Sys2Proof.Machine
end

section
/-!
PROOFS. The timers of the sampling unit: the record that each scan starts with, and the obligation on the scan trigger and the
watch timer (R120, R121, R124).
-/

namespace Sys2Proof.Machine

-- One theorem after another: elaborated all at once they need more thread stacks than the check's memory limit grants.
set_option Elab.async false

/-! ### The record a watch scan starts with (R124) -/

theorem nextRecord_watch {g : Sampling} {r : Fin 16} (hw : g.watchMode = true) (hr : r.val < g.length)
    (hflag : g.records[r].watch = true) (hbefore : ∀ q : Fin 16, q < r → g.records[q].watch = false) :
    g.nextRecord 0 = some r := by
  unfold Sampling.nextRecord
  rw [hw, List.find?_eq_some_iff_getElem]
  refine ⟨by simpa [hr] using hflag, r.val, by simp, by simp, fun j hj => ?_⟩
  have hq : g.records[j].watch = false := hbefore ⟨j, by omega⟩ hj
  simp [hq]

theorem nextRecord_unflagged {g : Sampling} (start : Nat) (hw : g.watchMode = true)
    (hnone : ∀ q : Fin 16, g.records[q].watch = false) : g.nextRecord start = none := by
  refine List.find?_eq_none.2 fun q _ => ?_
  have hq : g.records[q.val].watch = false := hnone q
  simp [hw, hq]

/-! ### The timers taken when due -/

theorem exec_scanTrigger_due {s : State} {x : Nat} (h : s.sampling.trigger = some x) (hx : x ≤ s.clock.us) :
    exec .scanTriggerExpiry s = .next { s with sampling := s.sampling.triggered s.clock.us } := by
  show Host.Outcome.next _ = _
  rw [h, due_some, decide_eq_true hx]
  rfl

theorem exec_watchTimer_due {s : State} {x : Nat} (h : s.sampling.watchTimer = some x) (hx : x ≤ s.clock.us) :
    exec .watchTimerExpiry s = .next { s with sampling := s.sampling.watchExpired s.clock.us } := by
  show Host.Outcome.next _ = _
  rw [h, due_some, decide_eq_true hx]
  rfl

/-- A trigger finds the unit IDLE: a scan starts with the record that comes first (R120). -/
theorem triggered_idle {g : Sampling} (now : Nat) (h : g.scan = none) : g.triggered now =
    { g with trigger := some (now + 2000), scan := (g.nextRecord 0).map fun r => { record := r, stop := now + 125 } } := by
  unfold Sampling.triggered
  rw [h]
  rfl

/-- A trigger finds a scan running, which runs on (R121). -/
theorem triggered_scanning {g : Sampling} (now : Nat) (h : g.scan ≠ none) : g.triggered now =
    { g with trigger := some (now + 2000), overrun := min 255 (g.overrun + 1) } := by
  obtain ⟨p, hp⟩ := Option.ne_none_iff_exists'.1 h
  unfold Sampling.triggered
  rw [hp]
  rfl

theorem watchExpired_idle {g : Sampling} (now : Nat) (h : g.scan = none) : g.watchExpired now =
    { g with watchTimer := some (now + 1000000)
             scan := (g.nextRecord 0).map fun r => { record := r, stop := now + 125 } } := by
  unfold Sampling.watchExpired
  rw [h]
  rfl

/-- Settles O43, timer by timer, from the record each scan starts with. -/
theorem scanTimers : Obligations.ScanTimers := by
  unfold Obligations.ScanTimers
  intro x s hx
  refine ⟨fun htrigger hidle hdrive hlength => ?_, fun htrigger hscanning => ?_,
    fun r htimer hidle hwatch hr hflag hbefore => ?_, fun htimer hidle hwatch hnone => ?_⟩
  · rw [exec_scanTrigger_due htrigger hx, triggered_idle _ hidle, nextRecord_first hdrive, if_pos hlength]
    rfl
  · rw [exec_scanTrigger_due htrigger hx, triggered_scanning _ hscanning]
  · rw [exec_watchTimer_due htimer hx, watchExpired_idle _ hidle, nextRecord_watch hwatch hr hflag hbefore]
    rfl
  · rw [exec_watchTimer_due htimer hx, watchExpired_idle _ hidle, nextRecord_unflagged 0 hwatch hnone,
      Option.map_none, ← hidle]

end Sys2Proof.Machine
end

section
/-!
PROOFS. The gates of the outputs over every operation of the block, said once: TRIP in the cause sets, the circuits at rest,
the pulses of cut channels and the watch scan of SECURED. `Gating s t` is what each operation does to them, and `GatesKept s t`
is the same for one that also leaves the modes where the cause sets put them (R120, R123, R125, R134, R150 to R153, R161).
-/

namespace Sys2Proof.Machine

open Sys2Proof.Safety

-- One theorem after another: elaborated all at once they need more thread stacks than the check's memory limit grants.
set_option Elab.async false

/-! ### A channel without a pulse (R134, R136, R137) -/

/-- No pulse runs on the channel, and none waits to begin. -/
def ChannelDrive.Silent (d : ChannelDrive) : Prop := d.running = none ∧ d.waiting = none

theorem ChannelDrive.silent_cut (d : ChannelDrive) (now : Nat) : (d.cut now).Silent := ⟨rfl, rfl⟩

theorem ChannelDrive.silent_leave (d : ChannelDrive) (now : Nat) : (d.leave now).Silent := ⟨rfl, rfl⟩

theorem ChannelDrive.silent_begin {d : ChannelDrive} (now : Nat) (h : d.Silent) : (d.begin now).Silent := by
  obtain ⟨hrunning, hwaiting⟩ := h
  unfold ChannelDrive.begin
  rw [hwaiting]
  exact ⟨hrunning, hwaiting⟩

theorem ChannelDrive.silent_finish {d : ChannelDrive} (now boundary : Nat) (h : d.Silent) :
    (d.finish now boundary).Silent := by
  rcases d.finish_cases now boundary with ⟨hstands, -⟩ | ⟨p, hp, -⟩
  · rw [hstands]; exact h
  · rw [h.1] at hp; cases hp

theorem ChannelDrive.silent_cross {d : ChannelDrive} (now : Nat) (h : d.Silent) : (d.cross now).Silent := by
  rcases d.cross_cases now with ⟨hstands, -⟩ | ⟨p, hp, -⟩
  · rw [hstands]; exact h
  · rw [h.1] at hp; cases hp

/-- A cut channel forms no pulse, forced or commanded (R134). -/
theorem ChannelDrive.silent_periodStart {d : ChannelDrive} (forced : Option Valve) (p : Params) (now : Nat)
    (h : d.Silent) : (d.periodStart true forced p now).Silent := by
  cases forced <;> exact ⟨h.1, rfl⟩

/-! ### The invariants, part by part -/

/-- TRIP stands in both cause sets while TRIPPED (R161). -/
def tripJoins (s : State) : Prop := s.trip.tripped = true → ∀ k : CircuitId, s.circuit[k].causes.trip = true

/-- No circuit is ELECTRONIC while TRIPPED (R150, R161). -/
def tripOff (s : State) : Prop := s.trip.tripped = true → ∀ k : CircuitId, s.circuit[k].mode ≠ .electronic

/-- Both circuits rest in SECURED (R153). -/
def securedRests (s : State) : Prop := s.coord.state = .secured → ∀ k : CircuitId, s.circuit[k].mode = .resting

/-- A channel whose outputs are cut has no pulse (R134; log entry 15). -/
def cutSilent (s : State) : Prop := ∀ c : Channel, outputsCut s c = true → s.valve.chan[c].Silent

theorem outputsGated_iff (s : State) :
    outputsGated s ↔ tripJoins s ∧ tripOff s ∧ securedRests s ∧ cutSilent s := by
  constructor
  · rintro ⟨htrip, hrests, hsilent⟩
    exact ⟨fun h k => (htrip h k).1, fun h k => (htrip h k).2, hrests, hsilent⟩
  · rintro ⟨hjoins, hoff, hrests, hsilent⟩
    exact ⟨fun h k => ⟨hjoins h k, hoff h k⟩, hrests, hsilent⟩

theorem outputsCut_iff (s : State) (c : Channel) :
    outputsCut s c = true ↔ s.circuit[circuitOf c].mode ≠ .electronic ∨ s.trip.tripped = true := by
  simp [outputsCut, electronic]

/-- No new channel is cut, and a cut one stays without a pulse. -/
theorem cutSilent_of {s t : State} (hcut : ∀ c : Channel, outputsCut t c = true → outputsCut s c = true)
    (hchan : ∀ c : Channel, outputsCut s c = true → s.valve.chan[c].Silent → t.valve.chan[c].Silent)
    (h : cutSilent s) : cutSilent t := fun c hc => hchan c (hcut c hc) (h c (hcut c hc))

/-- The modes that the cause sets give (R150). -/
theorem decideMode_follows {m : Mode} {k : Causes} (h : decideMode m k ≠ .resting) : decideMode m k =
    if k = { starting := false, trip := false, pressureInvalid := false, supplyInvalid := false, pedalLost := false } then
      .electronic else .fallback := by
  unfold decideMode at h ⊢
  by_cases hm : m = .resting
  · rw [if_pos hm] at h; exact absurd rfl h
  · rw [if_neg hm]
    by_cases hk : k.isEmpty = true
    · rw [if_pos hk, if_pos ((Causes.isEmpty_iff k).1 hk)]
    · rw [if_neg hk, if_neg fun h => hk ((Causes.isEmpty_iff k).2 h)]

/-! ### What an operation does to them -/

/-- The invariants that hold of the second state where they hold of the first, the modes still to be decided. -/
structure Gating (s t : State) : Prop where
  joins : tripJoins s → tripJoins t
  rests : securedRests s → securedRests t
  silent : securedRests s → cutSilent s → cutSilent t
  watch : watchesSecured s → watchesSecured t

/-- The invariants that hold of the second state where they hold of the first, the modes as the cause sets give them. -/
structure GatesKept (s t : State) : Prop extends Gating s t where
  off : tripJoins s → tripOff s → tripOff t
  follow : modesFollow s → modesFollow t

theorem Gating.after {s t u : State} (g : Gating t u) (h : Gating s t) : Gating s u :=
  ⟨g.joins ∘ h.joins, g.rests ∘ h.rests, fun hr hs => g.silent (h.rests hr) (h.silent hr hs), g.watch ∘ h.watch⟩

theorem GatesKept.after {s t u : State} (g : GatesKept t u) (h : GatesKept s t) : GatesKept s u :=
  ⟨g.toGating.after h.toGating, fun hj ho => g.off (h.joins hj) (h.off hj ho), g.follow ∘ h.follow⟩

theorem GatesKept.gated {s t : State} (h : GatesKept s t) (hs : outputsGated s) : outputsGated t := by
  obtain ⟨hjoins, hoff, hrests, hsilent⟩ := (outputsGated_iff s).1 hs
  exact (outputsGated_iff t).2 ⟨h.joins hjoins, h.off hjoins hoff, h.rests hrests, h.silent hrests hsilent⟩

/-- A change that leaves the circuits, the trip and the sampling mode, SECURED or not, and the cut channels without pulses. -/
theorem GatesKept.of_chan {s t : State}
    (hchan : ∀ c : Channel, outputsCut s c = true → s.valve.chan[c].Silent → t.valve.chan[c].Silent)
    (hcircuit : t.circuit = s.circuit) (htrip : t.trip.tripped = s.trip.tripped)
    (hwatch : t.sampling.watchMode = s.sampling.watchMode)
    (hstate : t.coord.state = .secured ↔ s.coord.state = .secured) : GatesKept s t where
  joins h := by unfold tripJoins; rw [htrip, hcircuit]; exact h
  rests h := by unfold securedRests; rw [hstate, hcircuit]; exact h
  silent _ := cutSilent_of (fun c => by simp only [outputsCut_iff, htrip, hcircuit]; exact id) hchan
  watch h := by unfold watchesSecured; rw [hwatch, decide_eq_decide.2 hstate]; exact h
  off _ h := by unfold tripOff; rw [htrip, hcircuit]; exact h
  follow h := by unfold modesFollow; rw [hcircuit]; exact h

/-- All that the invariants read beside the standstill state. -/
def gates (s : State) : Vector Circuit 2 × Vector ChannelDrive 6 × Bool × Bool :=
  (s.circuit, s.valve.chan, s.trip.tripped, s.sampling.watchMode)

theorem GatesKept.of_gates {s t : State} (h : gates t = gates s)
    (hstate : t.coord.state = .secured ↔ s.coord.state = .secured) : GatesKept s t := by
  simp only [gates, Prod.mk.injEq] at h
  obtain ⟨hcircuit, hchan, htrip, hwatch⟩ := h
  exact .of_chan (fun c _ hs => by rw [hchan]; exact hs) hcircuit htrip hwatch hstate

/-- A change of other blocks. -/
theorem GatesKept.of_same {s t : State} (h : gates t = gates s := by simp [gates])
    (hstate : t.coord.state = s.coord.state := by simp) : GatesKept s t := .of_gates h (by rw [hstate])

/-- A change of other blocks that does not enter or leave SECURED. -/
theorem GatesKept.of_apart {s t : State} (hs : s.coord.state ≠ .secured) (ht : t.coord.state ≠ .secured)
    (h : gates t = gates s := by simp [gates]) : GatesKept s t := .of_gates h (iff_of_false ht hs)

theorem GatesKept.refl (s : State) : GatesKept s s := .of_same rfl rfl

/-- A change of other blocks after an operation. -/
theorem GatesKept.same {s t u : State} (h : GatesKept s t) (hg : gates u = gates t := by simp [gates])
    (hstate : u.coord.state = t.coord.state := by simp) : GatesKept s u := (GatesKept.of_same hg hstate).after h

theorem Gating.of_same {s t : State} (h : gates t = gates s := by simp [gates])
    (hstate : t.coord.state = s.coord.state := by simp) : Gating s t := (GatesKept.of_same h hstate).toGating

theorem GatesKept.ite {s t u : State} {b : Prop} [Decidable b] (h : GatesKept s t) (g : GatesKept s u) :
    GatesKept s (if b then t else u) := by
  split
  · exact h
  · exact g

theorem GatesKept.when {s t : State} {b : Prop} [Decidable b] (h : GatesKept s t) :
    GatesKept s (if b then t else s) := .ite h (.refl s)

theorem Gating.ite {s t u : State} {b : Prop} [Decidable b] (h : Gating s t) (g : Gating s u) :
    Gating s (if b then t else u) := by
  split
  · exact h
  · exact g

/-! ### Answers, the park valve and the table -/

theorem gatesKept_answer (s : State) (a : Address) (k : Kind) (x : Byte) (o : AnswerCode) (u v w : Byte) :
    GatesKept s (answer s a k x o u v w) := .of_same

theorem gatesKept_endExercise (s : State) (w : EndReason) : GatesKept s (endExercise s w) := .of_same

theorem gatesKept_formStatus (s : State) : GatesKept s (formStatus s) := .of_same

theorem gatesKept_evalOverride (s : State) : GatesKept s (evalOverride s) := .of_same

theorem gatesKept_reapply (s : State) : GatesKept s (reapply s) := .of_same

theorem gatesKept_evaluateRelease (s : State) : GatesKept s (evaluateRelease s) :=
  .of_same (hstate := evaluateRelease_coord_state s)

theorem gatesKept_reevaluateRelease (s : State) : GatesKept s (reevaluateRelease s) :=
  (gatesKept_evaluateRelease s).when

theorem gatesKept_putTable (s : State) (t : Table) : GatesKept s (putTable s t) := .of_same

theorem gatesKept_handover (s : State) : GatesKept s (handover s) := .of_same

theorem gatesKept_startWindow (s : State) : GatesKept s (startWindow s) := .of_same rfl rfl

/-! ### The coordinator outside securing -/

theorem gatesKept_setStandstill {s : State} {st : Standstill} (hs : s.coord.state ≠ .secured) (ht : st ≠ .secured) :
    GatesKept s (setStandstill s st) := .of_apart hs ht

theorem gatesKept_promote {s : State} (h : s.coord.state ≠ .secured) : GatesKept s (promote s) :=
  .of_apart h (by rw [promote_coord_state]; decide)

theorem evalStopHold_secured_iff (s : State) : (evalStopHold s).coord.state = .secured ↔ s.coord.state = .secured := by
  unfold evalStopHold
  split
  · next h =>
    have hs : s.coord.state ≠ .secured := fun hsec => by simp [stopHoldConditions, hsec] at h
    exact iff_of_false (show Standstill.stopHold ≠ .secured by decide) hs
  · exact Iff.rfl

theorem gatesKept_evalStopHold (s : State) : GatesKept s (evalStopHold s) :=
  .of_gates (by simp [gates]) (evalStopHold_secured_iff s)

theorem gatesKept_evalReturn (s : State) : GatesKept s (evalReturn s) := by
  unfold evalReturn
  split
  · next h =>
    simp only [Bool.and_eq_true, decide_eq_true_eq] at h
    exact .of_apart (by rw [h.1]; decide) (show Standstill.run ≠ .secured by decide)
  · exact .refl s

theorem gatesKept_considerPromotion {s : State} (h : s.coord.state ≠ .secured) : GatesKept s (considerPromotion s) :=
  .ite (gatesKept_promote h) (.of_same rfl rfl)

theorem driveOff_coord_state (s : State) : (driveOff s).coord.state = .run := putTable_coord_state _ _

theorem gatesKept_evalDriveOff (s : State) : GatesKept s (evalDriveOff s) := by
  unfold evalDriveOff
  split
  · next h =>
    have hs : s.coord.state ≠ .secured := fun hsec => by simp [driveOffConditions, hsec] at h
    exact .of_apart hs (by rw [driveOff_coord_state]; decide)
  · exact .refl s

theorem undoDriveOff_coord_state (s : State) : (undoDriveOff s).coord.state = .autoPark := by
  unfold undoDriveOff
  rw [handover_coord]
  exact putTable_coord_state _ _

theorem gatesKept_undoDriveOff {s : State} (h : s.coord.state ≠ .secured) : GatesKept s (undoDriveOff s) :=
  .of_apart h (by rw [undoDriveOff_coord_state]; decide)

theorem gatesKept_creepFound (s : State) : GatesKept s (creepFound s) := by
  refine (gatesKept_startWindow _).after ?_
  split
  · next h => exact .ite .of_same (gatesKept_promote (by rw [h]; decide))
  · exact .ite .of_same (gatesKept_reapply s)
  · next h =>
    have hs : s.coord.state ≠ .secured := by rw [h]; decide
    exact (gatesKept_setStandstill (by simpa using hs) (by decide)).after .of_same
  all_goals exact .refl s

theorem gatesKept_rollingEdge (s : State) (c : Channel) : GatesKept s (rollingEdge s c) :=
  .ite ((gatesKept_formStatus _).after ((gatesKept_reapply s).same rfl rfl)) (.of_same rfl rfl)

theorem gatesKept_coordinatorEdge (s : State) (c : Channel) : GatesKept s (coordinatorEdge s c) := by
  have hcreep : GatesKept s (creepEdge s c) := .ite (.refl s) (.ite (gatesKept_creepFound s) (.of_same rfl rfl))
  unfold coordinatorEdge
  split
  case h_4 => exact gatesKept_rollingEdge s c
  case h_5 | h_6 => exact .refl s
  all_goals exact hcreep

theorem gatesKept_quietExpired (s : State) : GatesKept s (quietExpired s) := by
  unfold quietExpired
  split
  · next h =>
    exact (gatesKept_startWindow _).after ((gatesKept_handover _).after
      (gatesKept_setStandstill (by rw [h]; decide) (by decide)))
  · exact gatesKept_startWindow s

/-- A change of modes neither brings the coordinator into SECURED nor out of it (R169, R174). -/
theorem coordinatorModes_secured_iff (s : State) (left : Bool) :
    (coordinatorModes s left).coord.state = .secured ↔ s.coord.state = .secured := by
  unfold coordinatorModes
  split
  · next h =>
    simp only [Bool.and_eq_true, decide_eq_true_eq] at h
    exact iff_of_false (by rw [promote_coord_state]; decide) (by rw [h.1]; decide)
  · exact evalStopHold_secured_iff s

theorem gatesKept_coordinatorScan (s : State) : GatesKept s (coordinatorScan s) := by
  unfold coordinatorScan
  split
  · exact gatesKept_evalStopHold s
  · exact gatesKept_evalReturn s
  · exact gatesKept_evalDriveOff s
  · exact gatesKept_evalDriveOff s
  all_goals exact .refl s

theorem gatesKept_coordinatorDrive (s : State) : GatesKept s (coordinatorDrive s) :=
  .ite ((gatesKept_evalDriveOff _).after (gatesKept_evalReturn s)) (gatesKept_evalStopHold s)

/-! ### Circuit modes (R134, R150 to R153) -/

theorem modesWritten_valve (s : State) (mode : CircuitId → Mode) :
    (modesWritten s mode).valve = (writeModes s mode).valve := by
  unfold modesWritten; split <;> simp

theorem writeModes_chan (s : State) (mode : CircuitId → Mode) (c : Channel) : (writeModes s mode).valve.chan[c] =
    if goesOut s.circuit[circuitOf c].mode (mode (circuitOf c)) then s.valve.chan[c].leave s.clock.us
    else s.valve.chan[c] := mapAll_get _ _ c

/-- Of the readers of the modes only `writeModes` touches the pulses: those of the circuits that leave (R86, R134). -/
theorem applyModes_chan (s : State) (mode : CircuitId → Mode) (c : Channel) : (applyModes s mode).valve.chan[c] =
    if goesOut s.circuit[circuitOf c].mode (mode (circuitOf c)) then s.valve.chan[c].leave s.clock.us
    else s.valve.chan[c] := by
  rcases applyModes_cases s mode with ⟨h, hsame⟩ | ⟨u, left, h, rfl | rfl⟩ <;> rw [h]
  · rw [hsame, if_neg]
    cases s.circuit[circuitOf c].mode <;> decide
  · rw [coordinatorModes_valve, modesWritten_valve, writeModes_chan]
  · rw [coordinatorModes_valve, reevaluateRelease_valve, modesWritten_valve, writeModes_chan]

/-- New modes cut the outputs of the circuits that leave ELECTRONIC, and no other channel is newly cut (R134). -/
theorem cutSilent_applyModes {s : State} (mode : CircuitId → Mode) (h : cutSilent s) : cutSilent (applyModes s mode) := by
  intro c hc
  rw [outputsCut_iff, applyModes_slot, applyModes_trip] at hc
  rw [applyModes_chan]
  split
  · exact ChannelDrive.silent_leave _ _
  · next hstays =>
    refine h c ((outputsCut_iff s c).2 ?_)
    rcases hc with hmode | htrip
    · refine .inl fun he => hstays ?_
      rw [he]
      simpa [goesOut] using hmode
    · exact .inr htrip

theorem applyModes_secured_iff (s : State) (mode : CircuitId → Mode) :
    (applyModes s mode).coord.state = .secured ↔ s.coord.state = .secured := by
  rcases applyModes_cases s mode with ⟨h, -⟩ | ⟨u, left, h, rfl | rfl⟩ <;> rw [h]
  · rw [coordinatorModes_secured_iff, modesWritten_coord]
  · rw [coordinatorModes_secured_iff, reevaluateRelease_coord_state, modesWritten_coord]

/-- New modes, which rest in SECURED where the circuits rested there. -/
theorem gating_applyModes {s : State} {mode : CircuitId → Mode}
    (hm : securedRests s → s.coord.state = .secured → ∀ k, mode k = .resting) : Gating s (applyModes s mode) where
  joins h ht k := by
    rw [applyModes_slot]
    exact h (by rwa [applyModes_trip] at ht) k
  rests h hs k := by
    rw [applyModes_slot]
    exact hm h ((applyModes_secured_iff s mode).1 hs) k
  silent _ := cutSilent_applyModes mode
  watch h := by
    unfold watchesSecured
    rw [applyModes_sampling, decide_eq_decide.2 (applyModes_secured_iff s mode)]
    exact h

theorem tripOff_settleModes {s : State} (h : tripJoins s) : tripOff (settleModes s) := by
  intro ht k
  rw [settleModes_slot]
  exact decideMode_tripped _ (h (by rwa [settleModes_trip] at ht) k)

theorem modesFollow_settleModes (s : State) : modesFollow (settleModes s) := by
  intro k hk
  rw [settleModes_slot] at hk ⊢
  exact decideMode_follows hk

/-- A circuit that rests goes on resting when the modes are decided (R150). -/
theorem gating_settleModes (s : State) : Gating s (settleModes s) :=
  gating_applyModes fun h hs k => by rw [h hs k]; rfl

/-- The modes decided after an operation: they are then where the cause sets put them (R150, R151). -/
theorem Gating.settled {s t : State} (h : Gating s t) : GatesKept s (settleModes t) where
  toGating := (gating_settleModes t).after h
  off hj _ := tripOff_settleModes (h.joins hj)
  follow _ := modesFollow_settleModes t

/-! ### Trips (R134, R161 to R163) -/

theorem addTrip_slot (v : Vector Circuit 2) (k : CircuitId) :
    (addTrip v)[k] = { v[k] with causes := { v[k].causes with trip := true } } := mapAll_get _ _ k

/-- A trip joins both cause sets and cuts every channel; the modes are decided later in the event (R134, R161). -/
theorem gating_enterTrip (s : State) (risen : TripSet) : Gating s (enterTrip s risen) := by
  refine (gatesKept_endExercise _ _).toGating.after {
    joins := fun _ _ k => congrArg (·.causes.trip) (addTrip_slot s.circuit k)
    rests := fun h hs k => (congrArg Circuit.mode (addTrip_slot s.circuit k)).trans (h hs k)
    silent := fun _ _ c _ => ?_
    watch := id }
  rw [show (mapAll s.valve.chan fun _ d => d.cut s.clock.us)[c] = s.valve.chan[c].cut s.clock.us from mapAll_get _ _ c]
  exact ChannelDrive.silent_cut _ _

theorem gating_rise (s : State) (risen : TripSet) : Gating s (rise s risen) :=
  .ite (.of_same rfl rfl) (.ite (.of_same rfl rfl) (gating_enterTrip s risen))

theorem gating_setActive (s : State) (active : TripSet) : Gating s (setActive s active) :=
  (gating_rise _ _).after (.of_same rfl rfl)

/-- The end of a trip cuts no channel; the modes are decided after it (R163). -/
theorem gating_removeTrip (s : State) : Gating s
    { s with trip := { s.trip with tripped := false, latched := TripSet.none }, circuit := removeTrip s.circuit } where
  joins _ ht := nomatch ht
  rests h hs k := (congrArg Circuit.mode (removeTrip_slot s.circuit k)).trans (h hs k)
  silent _ := by
    refine cutSilent_of (fun c hc => ?_) fun _ _ => id
    rw [outputsCut_iff] at hc ⊢
    refine .inl fun he => hc.elim (fun h => h ?_) nofun
    exact (congrArg Circuit.mode (removeTrip_slot s.circuit _)).trans he
  watch := id

theorem gatesKept_clearTrip (s : State) : GatesKept s (clearTrip s) := (gating_removeTrip s).settled

/-! ### Securing (R123, R153, R183, R184) -/

/-- Securing completes in watch scan with both circuits at rest, whatever they were (R123, R153, R184). -/
theorem gatesKept_completeSecuring (s : State) : GatesKept s (completeSecuring s) := by
  rw [completeSecuring_eq]
  have hcircuit : (securedBlocks s).circuit = s.circuit := by simp [securedBlocks]
  have hvalve : (securedBlocks s).valve = s.valve := by simp [securedBlocks]
  have htrip : (securedBlocks s).trip.tripped = s.trip.tripped := by simp [securedBlocks, TripUnit.rest]
  have hjoins (h : tripJoins s) : tripJoins (securedBlocks s) := by
    unfold tripJoins; rw [htrip, hcircuit]; exact h
  have hsilent : cutSilent s → cutSilent (securedBlocks s) :=
    cutSilent_of (fun c hc => by rwa [outputsCut_iff, hcircuit, htrip, ← outputsCut_iff] at hc)
      (fun c _ hs => by rw [hvalve]; exact hs)
  have happlied : Gating (securedBlocks s) (applyModes (securedBlocks s) fun _ => .resting) :=
    gating_applyModes fun _ _ _ => rfl
  have hrests (k : CircuitId) : (applyModes (securedBlocks s) fun _ => .resting).circuit[k].mode = .resting := by
    rw [applyModes_slot]
  exact {
    joins := fun h => happlied.joins (hjoins h)
    rests := fun _ _ => hrests
    silent := fun _ h => cutSilent_applyModes _ (hsilent h)
    watch := fun _ => happlied.watch rfl
    off := fun _ _ _ k => by rw [hrests]; decide
    follow := fun _ k hk => absurd (hrests k) hk }

theorem gatesKept_enterSecuring {s : State} (h : s.coord.state ≠ .secured) : GatesKept s (enterSecuring s) :=
  have hbegun : GatesKept s (beginSecuring s) :=
    .of_apart h (by rw [(beginSecuring_spec s).1]; exact (show Standstill.securing ≠ .secured by decide))
  .ite ((gatesKept_completeSecuring _).after hbegun) hbegun

theorem gatesKept_reportApplied (s : State) : GatesKept s (reportApplied s) :=
  .ite (gatesKept_completeSecuring s) (gatesKept_handover s)

theorem gatesKept_matchDoor (s : State) : GatesKept s (matchDoor s) := by
  rw [matchDoor_eq]; exact .of_same rfl rfl

theorem gatesKept_matchSwitch (s : State) : GatesKept s (matchSwitch s) :=
  .ite (gatesKept_putTable _ _).when (gatesKept_putTable _ _).when

theorem gatesKept_returnFromSecuring {s : State} (h : s.coord.state ≠ .secured) : GatesKept s (returnFromSecuring s) :=
  (gatesKept_handover _).after ((gatesKept_startWindow _).after (((gatesKept_matchSwitch _).after
    ((gatesKept_matchDoor _).after (gatesKept_setStandstill h (by decide)))).same rfl rfl))

/-! ### Speeds -/

theorem not_secured_of_not_securingOrSecured {s : State} (h : securingOrSecured s = false) : s.coord.state ≠ .secured :=
  fun hsec => by simp [securingOrSecured, hsec] at h

theorem settle_state (k : Coordinator) (expiry old new : Nat) : (k.settle expiry old new).state = k.state := by
  unfold Coordinator.settle; split <;> rfl

theorem gatesKept_coordinatorSpeed (s : State) (old : Nat) : GatesKept s (coordinatorSpeed s old) := by
  unfold coordinatorSpeed
  split
  · next h =>
    simp only [Bool.and_eq_true, Bool.not_eq_true'] at h
    exact gatesKept_enterSecuring (not_secured_of_not_securingOrSecured h.2)
  · exact (gatesKept_evalDriveOff _).after (.of_same rfl (settle_state _ _ _ _))

theorem gatesKept_setReference (s : State) (v : Nat) : GatesKept s (setReference s v) :=
  .ite (.refl s) ((gatesKept_coordinatorSpeed _ _).after .of_same)

theorem gatesKept_setWheel (s : State) (c : Channel) (w : Wheel) : GatesKept s (setWheel s c w) :=
  ((gatesKept_setReference { s with wheel := put s.wheel c w } _).after (.of_same (s := s) rfl rfl)).same rfl rfl

theorem gatesKept_toothEdge (s : State) (c : Channel) : GatesKept s (toothEdge s c) :=
  (gatesKept_coordinatorEdge _ c).after (gatesKept_setWheel s c _)

theorem gatesKept_markSuspect (s : State) (c : Channel) : GatesKept s (markSuspect s c) :=
  (gatesKept_setWheel _ c _).after (.of_same rfl rfl)

/-! ### Conversions: the causes and the trip move, and the modes are decided at the end (R120, R155) -/

theorem supervise_slot (s : State) (g : Sampling) (k : CircuitId) : (supervise s g).circuit[k] =
    s.circuit[k].completed (pressuresValid g k) (supplyValid g k) s.pedal.lost s.pedalRun := mapAll_get _ _ k

/-- The supervisor moves its own causes: TRIP and the modes stand (R129, R130, R154). -/
theorem gating_supervise (s : State) (g : Sampling) : Gating s (supervise s g) := by
  have htrip (k : CircuitId) : (supervise s g).circuit[k].causes.trip = s.circuit[k].causes.trip := by
    rw [supervise_slot]; rfl
  have hmode (k : CircuitId) : (supervise s g).circuit[k].mode = s.circuit[k].mode := by rw [supervise_slot]; rfl
  refine ⟨fun h ht k => (htrip k).trans (h ht k), fun h hs k => (hmode k).trans (h hs k),
    fun _ => cutSilent_of (fun c hc => ?_) fun _ _ => id, id⟩
  rw [outputsCut_iff, hmode] at hc
  exact (outputsCut_iff s c).2 hc

theorem gating_tripScan (s : State) : Gating s (tripScan s) := (gating_setActive _ _).after (.of_same rfl rfl)

theorem gating_driveScanComplete (s : State) (g : Sampling) : Gating s (driveScanComplete s g) :=
  (gating_tripScan _).after ((gating_supervise _ g).after (.of_same rfl rfl))

theorem gating_advanceScan (s : State) (r : Fin 16) : Gating s (advanceScan s r).1 := by
  unfold advanceScan
  split
  · exact .of_same rfl rfl
  · dsimp only
    split
    · exact .of_same rfl rfl
    · exact (gating_driveScanComplete _ _).after (.of_same rfl rfl)

theorem gatesKept_confirmApplied (s : State) : GatesKept s (confirmApplied s) :=
  have hreported := (gatesKept_reportApplied { s with park :=
    { s.park with state := .applied, step := none, confirmTimer := none, pulses := 0, fault := false } }).after
      (.of_same (s := s) rfl rfl)
  .ite hreported ((gatesKept_evaluateRelease _).after hreported)

theorem gatesKept_parkConversion (s : State) (r : ConvResult) : GatesKept s (parkConversion s r) := by
  unfold parkConversion
  split
  · exact .refl s
  · exact .ite (.refl s) (.ite (gatesKept_confirmApplied s) (GatesKept.when (.of_same rfl rfl)))

theorem gating_deliver (s : State) (input : Fin 12) (r : ConvResult) : Gating s (deliver s input r) := by
  unfold deliver
  split
  · exact (gating_setActive _ _).after (.of_same rfl rfl)
  · exact (GatesKept.ite (gatesKept_reevaluateRelease s) (gatesKept_parkConversion s r).when).toGating

theorem gatesKept_watchEvent (s : State) (w : Bool) (input : Fin 12) (r : ConvResult) :
    GatesKept s (watchEvent s w input r) := .ite (.refl s) (.ite (gatesKept_reapply s) (gatesKept_formStatus s))

theorem gatesKept_scannedOn {s t : State} (h : Gating s t) (record : Fin 16) : GatesKept s (scannedOn t record) :=
  have hscanned := ((gating_advanceScan t record).after h).settled
  .ite h.settled (.ite ((gatesKept_coordinatorScan _).after ((gatesKept_evalOverride _).after hscanned)) hscanned)

theorem gatesKept_takeConversion (s : State) (record : Fin 16) (r : ConvResult) :
    GatesKept s (takeConversion s record r) := by
  have hdelivered : Gating s (delivered s record r) :=
    (gating_deliver (withResult s record r) _ r).after (.of_same rfl rfl)
  rw [takeConversion_eq]
  exact gatesKept_scannedOn ((gatesKept_watchEvent _ _ _ _).toGating.after hdelivered) record

theorem gatesKept_conversionEvent (s : State) (raw : BitVec 12) : GatesKept s (conversionEvent s raw) := by
  unfold conversionEvent
  split
  · exact (gatesKept_takeConversion s _ _).when
  · exact .refl s

/-! ### Cold start and wake (R125, R150, R188) -/

/-- Fresh circuits outside SECURED, in drive scan and without a pulse, meet the invariants: STARTING stands against
electronic control, and TRIP while TRIPPED (R150). -/
theorem gatesKept_fresh {s t : State} (hcircuit : t.circuit = Vector.replicate 2 (freshCircuit t.trip.tripped))
    (hchan : securedRests s → cutSilent s → ∀ c : Channel, t.valve.chan[c].Silent)
    (hwatch : t.sampling.watchMode = false) (hstate : t.coord.state ≠ .secured) : GatesKept s t := by
  have hslot (k : CircuitId) : t.circuit[k] = freshCircuit t.trip.tripped := by
    rw [hcircuit]; exact Vector.getElem_replicate _
  have hstarting (k : CircuitId) : t.circuit[k].causes.starting = true := by rw [hslot]; rfl
  have hfallback (k : CircuitId) : t.circuit[k].mode = .fallback := by rw [hslot]; rfl
  exact {
    joins := fun _ ht k => by rw [hslot]; exact ht
    rests := fun _ hs => absurd hs hstate
    silent := fun hr hs c _ => hchan hr hs c
    watch := fun _ => by rw [watchesSecured, hwatch, decide_eq_false hstate]
    off := fun _ _ _ k => by rw [hfallback]; decide
    follow := fun _ k _ => by
      rw [hfallback, if_neg]
      intro h
      have hset := hstarting k
      rw [h] at hset
      cases hset }

theorem startedState_chan (s : State) (c : Channel) : (startedState s).valve.chan[c] = coldDrive :=
  Vector.getElem_replicate _

theorem gatesKept_startedState (s : State) : GatesKept s (startedState s) :=
  gatesKept_fresh rfl (fun _ _ c => by rw [startedState_chan]; exact ⟨rfl, rfl⟩) rfl
    (show Standstill.autoPark ≠ .secured by decide)

theorem gatesKept_coldStart (s : State) : GatesKept s (coldStart s) := by
  cases h : s.lines.ignition with
  | true => rw [coldStart_on h]; exact gatesKept_startedState s
  | false =>
    rw [coldStart_off h]
    exact GatesKept.after (t := startedState s) (.of_apart (show Standstill.autoPark ≠ .secured by decide)
      (show Standstill.securing ≠ .secured by decide) rfl) (gatesKept_startedState s)

/-- Wake finds every channel cut, since both circuits rest in SECURED (R134, R153). -/
theorem gatesKept_wakeBlocks {s : State} (h : s.coord.state = .secured) : GatesKept s (wakeBlocks s) :=
  gatesKept_fresh rfl
    (fun hrests hsilent c => hsilent c ((outputsCut_iff s c).2 (.inl (by rw [hrests h]; decide)))) rfl
    (by rw [wakeBlocks_coord_state]; decide)

theorem gatesKept_wake {s : State} (h : s.coord.state = .secured) : GatesKept s (wake s) :=
  (gatesKept_handover _).after ((gatesKept_startWindow _).after (((gatesKept_putTable _ _).after
    ((gatesKept_reevaluateRelease _).after (gatesKept_wakeBlocks h))).same rfl rfl))

end Sys2Proof.Machine
end

section
/-!
PROOFS. Every command, and so every step, keeps the gates of the outputs, the modes and the watch scan, and the obligation on
them (R120, R123, R125, R134, R150 to R153, R161).
-/

namespace Sys2Proof.Machine

open Sys2Proof.Safety

-- One theorem after another: elaborated all at once they need more thread stacks than the check's memory limit grants.
set_option Elab.async false

/-! ### Excerpts and transmission -/

theorem gatesKept_fillExcerpts (s : State) : GatesKept s (fillExcerpts s) := by
  unfold fillExcerpts
  split
  · exact .refl s
  · exact .of_same rfl rfl

theorem gatesKept_finishEmission (s : State) : GatesKept s (finishEmission s) := by
  unfold finishEmission
  split
  · exact .of_same rfl rfl
  · exact (gatesKept_fillExcerpts _).after (.of_same rfl rfl)

theorem gatesKept_admitExcerpt (s : State) (a : Address) (r : ExcerptRequest) : GatesKept s (admitExcerpt s a r) :=
  .ite ((gatesKept_answer _ _ _ _ _ _ _ _).after ((gatesKept_fillExcerpts _).after (.of_same rfl rfl)))
    (.ite (.of_same rfl rfl) (.of_same rfl rfl))

theorem gatesKept_sent (s : State) (x : Transmission) : GatesKept s (sent s x) := by
  have hport : GatesKept s { s with port := s.port.completed x } := .of_same rfl rfl
  exact .ite ((gatesKept_coldStart _).after hport) (.ite
    (.ite ((gatesKept_finishEmission _).after hport) ((gatesKept_fillExcerpts _).after hport)) hport)

theorem gatesKept_notSent (s : State) (x : Transmission) (why : TransmitFault) : GatesKept s (notSent s x why) := by
  have hport : GatesKept s { s with port := s.port.failed x why } := .of_same rfl rfl
  exact .ite hport (.ite ((gatesKept_coldStart _).after (hport.same rfl rfl)) (hport.same rfl rfl))

/-! ### Requests -/

/-- Whatever next state an outcome holds keeps the invariants of the state before. -/
def GatesKeptBy (s : State) (r : Result) : Prop := ∀ t, r = .next t → GatesKept s t

theorem gatesKeptBy_next {s t : State} (h : GatesKept s t) : GatesKeptBy s (.next t) := by
  intro u hu; cases hu; exact h

theorem gatesKeptBy_refused (s : State) (r : Refusal) : GatesKeptBy s (.refused r) := by
  intro u hu; cases hu

/-- The common path of requests keeps what the act of an ENROLLED sender keeps; a request that is not acted on forms an answer
at most (R33, R35, R45). -/
theorem gatesKeptBy_request {s : State} {a : Address} {k : Kind} {x b3 b6 b7 : Byte} {o : AnswerCode} {act : State → Result}
    (hact : ∀ t, GatesKeptBy t (act t)) : GatesKeptBy s (request s a (answer s a k x o b3 b6 b7) act) := by
  unfold request
  split
  · exact gatesKeptBy_next (.refl s)
  · split
    · exact gatesKeptBy_next (gatesKept_answer _ _ _ _ _ _ _ _)
    · exact gatesKeptBy_next (.refl s)
    · exact fun u hu => (hact _ u hu).after .of_same

theorem gatesKept_takeReply (s : State) (a : Address) (k : Kind) (cb : Byte) (r : TableReply) :
    GatesKept s (takeReply s a k cb r) := (gatesKept_answer _ _ _ _ _ _ _ _).after (gatesKept_putTable s _)

theorem gatesKeptBy_postRequest (s : State) (a : Address) (cb sb life opts gate : Byte) (v : BitVec 16) :
    GatesKeptBy s (postRequest s a cb sb v life opts gate) := by
  unfold postRequest
  split
  · exact gatesKeptBy_next (gatesKept_answer _ _ _ _ _ _ _ _)
  · unfold postAtTable
    split
    · intro u hu; cases hu
    · exact gatesKeptBy_next (gatesKept_takeReply _ _ _ _ _)

theorem gatesKept_refreshRequest (s : State) (a : Address) (cb : Byte) : GatesKept s (refreshRequest s a cb) := by
  unfold refreshRequest
  split
  · exact gatesKept_answer _ _ _ _ _ _ _ _
  · exact gatesKept_takeReply _ _ _ _ _

theorem gatesKept_releaseRequest (s : State) (a : Address) (cb : Byte) : GatesKept s (releaseRequest s a cb) := by
  unfold releaseRequest
  split
  · exact gatesKept_answer _ _ _ _ _ _ _ _
  · exact gatesKept_takeReply _ _ _ _ _

theorem gatesKept_excerptRequest (s : State) (a : Address) (preset start count : Byte) :
    GatesKept s (excerptRequest s a preset start count) := by
  unfold excerptRequest
  split
  · exact gatesKept_answer _ _ _ _ _ _ _ _
  · exact gatesKept_admitExcerpt _ _ _

/-- A source enabled while active rises, and the modes are decided after it (R151, R162). -/
theorem gatesKept_writeParam (s : State) (id v : Nat) : GatesKept s (writeParam s id v) :=
  Gating.settled ((gating_rise _ _).after (.of_same rfl rfl))

theorem gatesKept_writeScanParam (s : State) (id v : Nat) : GatesKept s (writeScanParam s id v) := by
  unfold writeScanParam
  split
  case h_3 => exact .ite (.of_same rfl rfl) (.of_same rfl rfl)
  all_goals exact .of_same rfl rfl

theorem gatesKept_setParamRequest (s : State) (a : Address) (id : Byte) (v : BitVec 16) :
    GatesKept s (setParamRequest s a id v) :=
  (gatesKept_answer _ _ _ _ _ _ _ _).after
    (GatesKept.when (.ite (gatesKept_writeParam s _ _) (gatesKept_writeScanParam s _ _)))

theorem gatesKept_applyRoster (s : State) (x : Address) (state classes scope configure : Byte) :
    GatesKept s (applyRoster s x state classes scope configure) := by
  unfold applyRoster
  exact (gatesKept_putTable _ _).after (.of_same rfl rfl)

theorem gatesKept_setRosterRequest (s : State) (a : Address) (target state classes scope configure : Byte) :
    GatesKept s (setRosterRequest s a target state classes scope configure) := by
  unfold setRosterRequest plainAnswer
  refine (gatesKept_answer _ _ _ _ _ _ _ _).after (GatesKept.when ?_)
  split
  · exact gatesKept_applyRoster _ _ _ _ _ _
  · exact .refl s

theorem gatesKept_storeRequest (s : State) (a : Address) : GatesKept s (storeRequest s a) :=
  .ite (gatesKept_answer _ _ _ _ _ _ _ _) (.ite (gatesKept_answer _ _ _ _ _ _ _ _) .of_same)

theorem gatesKept_restartRequest (s : State) (a : Address) : GatesKept s (restartRequest s a) :=
  have haccepted : GatesKept s (acceptRestart s a) := .of_same rfl rfl
  .ite (gatesKept_answer _ _ _ _ _ _ _ _) (.ite (gatesKept_answer _ _ _ _ _ _ _ _)
    (.ite (gatesKept_answer _ _ _ _ _ _ _ _) (.ite ((gatesKept_coldStart _).after haccepted) haccepted)))

theorem gatesKept_clearTripRequest (s : State) (a : Address) : GatesKept s (clearTripRequest s a) :=
  .ite (gatesKept_answer _ _ _ _ _ _ _ _) (.ite (gatesKept_answer _ _ _ _ _ _ _ _)
    (.ite (gatesKept_answer _ _ _ _ _ _ _ _)
      ((gatesKept_answer _ _ _ _ _ _ _ _).after (gatesKept_clearTrip s))))

theorem gatesKept_exerciseEngine (s : State) (a : Address) (c : Channel) (mode count : Byte) :
    GatesKept s (exerciseEngine s a c mode count) := by
  unfold exerciseEngine
  split
  · exact .of_same rfl rfl
  · exact .ite (.of_same rfl rfl) (.ite (.of_same rfl rfl) (.of_same rfl rfl))

theorem gatesKept_exerciseRequest (s : State) (a : Address) (channel mode count : Byte) :
    GatesKept s (exerciseRequest s a channel mode count) := by
  unfold exerciseRequest
  split
  · exact .of_same rfl rfl
  · split
    · exact .ite (gatesKept_exerciseEngine _ _ _ _ _) (.of_same rfl rfl)
    · exact .of_same rfl rfl

theorem gatesKept_stopRequest (s : State) (a : Address) : GatesKept s (stopRequest s a) :=
  .ite (.of_same rfl rfl) (.ite (.of_same rfl rfl)
    ((gatesKept_answer _ _ _ _ _ _ _ _).after (gatesKept_endExercise s _)))

/-! ### Lines and timers -/

theorem gatesKept_doorSettled (s : State) : GatesKept s (doorSettled s) :=
  .ite (.of_same rfl rfl) (.ite (.of_same rfl rfl) (.of_same rfl rfl))

theorem gatesKept_switchSettled (s : State) : GatesKept s (switchSettled s) :=
  .ite (.of_same rfl rfl) (.ite ((gatesKept_putTable _ _).after (.of_same rfl rfl))
    ((gatesKept_putTable _ _).after (.of_same rfl rfl)))

theorem gatesKept_driveChanged (s : State) (active : Bool) : GatesKept s (driveChanged s active) :=
  (gatesKept_coordinatorDrive _).after (.of_same rfl rfl)

theorem gatesKept_ignitionOn (s : State) : GatesKept s (ignitionOn s) := by
  unfold ignitionOn
  split
  · next h => exact gatesKept_returnFromSecuring (by rw [h]; decide)
  · next h => exact gatesKept_wake h
  all_goals exact .of_same rfl rfl

theorem gatesKept_ignitionOff (s : State) : GatesKept s (ignitionOff s) := by
  unfold ignitionOff
  split
  · exact .refl s
  · next h =>
    have hs := not_secured_of_not_securingOrSecured (Bool.eq_false_iff.2 h)
    exact .ite (gatesKept_enterSecuring hs) (.of_same rfl rfl)

theorem gatesKept_ignitionChanged (s : State) (active : Bool) : GatesKept s (ignitionChanged s active) :=
  .ite ((gatesKept_ignitionOn _).after (.of_same rfl rfl)) ((gatesKept_ignitionOff _).after (.of_same rfl rfl))

theorem gatesKept_cutOutChanged (s : State) (active : Bool) : GatesKept s (cutOutChanged s active) :=
  Gating.settled ((gating_setActive _ _).after (.of_same rfl rfl))

theorem gatesKept_stallExpired (s : State) : GatesKept s (stallExpired s) :=
  Gating.settled ((gating_setActive _ _).after (.of_same rfl rfl))

theorem gatesKept_retryExpired (s : State) : GatesKept s (retryExpired s) :=
  .ite (.of_same rfl rfl) (.ite (.of_same rfl rfl) ((gatesKept_evaluateRelease _).after (.of_same rfl rfl)))

theorem gatesKept_settleExpired (s : State) : GatesKept s (settleExpired s) :=
  (gatesKept_evalStopHold _).after (.of_same rfl rfl)

theorem gatesKept_dwellExpired (s : State) : GatesKept s (dwellExpired s) := by
  unfold dwellExpired
  dsimp only
  split
  · next h => exact (gatesKept_considerPromotion (by dsimp only; rw [h]; decide)).after (.of_same rfl rfl)
  · exact .of_same rfl rfl

theorem gatesKept_withheldExpired (s : State) : GatesKept s (withheldExpired s) := by
  unfold withheldExpired
  split
  · next h => exact gatesKept_undoDriveOff (by rw [h]; decide)
  · exact .of_same rfl rfl

/-! ### The sampling unit's timers (R120, R124) -/

theorem triggered_watchMode (g : Sampling) (now : Nat) : (g.triggered now).watchMode = g.watchMode := by
  unfold Sampling.triggered; split <;> rfl

theorem watchExpired_watchMode (g : Sampling) (now : Nat) : (g.watchExpired now).watchMode = g.watchMode := by
  unfold Sampling.watchExpired; split <;> rfl

/-- A change of the sampling unit that does not change its mode. -/
theorem gatesKept_sampling {s : State} {g : Sampling} (h : g.watchMode = s.sampling.watchMode) :
    GatesKept s { s with sampling := g } := .of_same (by simp only [gates, h]) rfl

/-! ### The valve drive (R134 to R137) -/

/-- A change of one channel that leaves it without a pulse where it has none. -/
theorem gatesKept_alter (s : State) (c : Channel) (f : ChannelDrive → ChannelDrive)
    (hf : ∀ d : ChannelDrive, d.Silent → (f d).Silent) :
    GatesKept s { s with valve := { s.valve with chan := alter s.valve.chan c f } } := by
  refine .of_chan (fun k _ hs => ?_) rfl rfl rfl Iff.rfl
  by_cases hk : c = k
  · subst hk
    rw [show (alter s.valve.chan c f)[c] = f s.valve.chan[c] from alter_same _ _ _]
    exact hf _ hs
  · rw [show (alter s.valve.chan c f)[k] = s.valve.chan[k] from alter_other _ _ _ _ hk]
    exact hs

theorem gatesKept_allocate (s : State) : GatesKept s (allocate s) :=
  .of_chan (fun c _ hs => by rw [allocate_chan]; exact hs) (by simp) (by simp) (by simp) (by simp)

/-- A period start forms no pulse on a cut channel (R134, R136). -/
theorem gatesKept_modulationStart (s : State) : GatesKept s (modulationStart s) := by
  have hformed : GatesKept s { s with valve :=
      { timer := s.clock.us + msec s.settings.params.modulationPeriod
        chan := mapAll s.valve.chan fun c d =>
          (d.periodStart (outputsCut s c) (s.exercise.forces c) s.settings.params s.clock.us).cross s.clock.us } } := by
    refine .of_chan (fun c hc hs => ?_) rfl rfl rfl Iff.rfl
    rw [show (mapAll s.valve.chan fun c d => (d.periodStart (outputsCut s c) (s.exercise.forces c) s.settings.params
      s.clock.us).cross s.clock.us)[c] = _ from mapAll_get _ _ c, hc]
    exact ChannelDrive.silent_cross _ (ChannelDrive.silent_periodStart _ _ _ hs)
  exact .ite ((gatesKept_endExercise _ _).after (hformed.same rfl rfl)) (hformed.same rfl rfl)

/-! ### Commands and steps -/

/-- Every command keeps the gates of the outputs, the modes and the watch scan. -/
theorem gatesKeptBy_exec (c : Instr) (s : State) : GatesKeptBy s (exec c s) := by
  cases c with
  | post a cb sb v life opts gate => exact gatesKeptBy_request fun t => gatesKeptBy_postRequest t a cb sb life opts gate v
  | refresh a cb => exact gatesKeptBy_request fun t => gatesKeptBy_next (gatesKept_refreshRequest t a cb)
  | release a cb => exact gatesKeptBy_request fun t => gatesKeptBy_next (gatesKept_releaseRequest t a cb)
  | excerpt a preset start count =>
    exact gatesKeptBy_request fun t => gatesKeptBy_next (gatesKept_excerptRequest t a preset start count)
  | setParam a id v => exact gatesKeptBy_request fun t => gatesKeptBy_next (gatesKept_setParamRequest t a id v)
  | setRoster a target state classes scope configure =>
    exact gatesKeptBy_request fun t => gatesKeptBy_next (gatesKept_setRosterRequest t a target state classes scope configure)
  | store a => exact gatesKeptBy_request fun t => gatesKeptBy_next (gatesKept_storeRequest t a)
  | clearTrip a => exact gatesKeptBy_request fun t => gatesKeptBy_next (gatesKept_clearTripRequest t a)
  | exercise a channel mode count =>
    exact gatesKeptBy_request fun t => gatesKeptBy_next (gatesKept_exerciseRequest t a channel mode count)
  | exerciseStop a => exact gatesKeptBy_request fun t => gatesKeptBy_next (gatesKept_stopRequest t a)
  | restart a => exact gatesKeptBy_request fun t => gatesKeptBy_next (gatesKept_restartRequest t a)
  | malformedFrame a code kind =>
    show GatesKeptBy s (if _ then _ else _)
    split
    · exact gatesKeptBy_next (.of_same rfl rfl)
    · exact gatesKeptBy_refused s _
  | ignoredFrame why =>
    show GatesKeptBy s (if _ then _ else _)
    split
    · exact gatesKeptBy_next (.refl s)
    · exact gatesKeptBy_refused s _
  | transmitStart =>
    refine gatesKeptBy_next ?_
    split
    · exact .of_same rfl rfl
    · exact .refl s
  | transmitComplete =>
    refine gatesKeptBy_next ?_
    split
    · exact gatesKept_sent s _
    · exact .refl s
  | transmitFailure why =>
    refine gatesKeptBy_next ?_
    split
    · exact gatesKept_notSent s _ why
    · exact .refl s
  | coldStart => exact gatesKeptBy_next (gatesKept_coldStart s)
  | debouncedLineChange line active =>
    refine gatesKeptBy_next ?_
    cases line <;> exact .of_same rfl rfl
  | debounceExpiry line =>
    refine gatesKeptBy_next ?_
    cases line with
    | doorOpen => exact (gatesKept_doorSettled s).when
    | parkSwitch => exact (gatesKept_switchSettled s).when
  | driveRequestChange active => exact gatesKeptBy_next (.ite (.refl s) (gatesKept_driveChanged s active))
  | ignitionChange active => exact gatesKeptBy_next (.ite (.refl s) (gatesKept_ignitionChanged s active))
  | brakeCutOutChange active => exact gatesKeptBy_next (.ite (.refl s) (gatesKept_cutOutChanged s active))
  | toothEdge c => exact gatesKeptBy_next (gatesKept_toothEdge s c)
  | toothTimeout c => exact gatesKeptBy_next (gatesKept_setWheel s c _).when
  | suspectSetExpiry c => exact gatesKeptBy_next (gatesKept_markSuspect s c).when
  | suspectClearExpiry c => exact gatesKeptBy_next (gatesKept_setWheel s c _).when
  | conversionComplete raw => exact gatesKeptBy_next (gatesKept_conversionEvent s raw)
  | scanTriggerExpiry =>
    refine gatesKeptBy_next (gatesKept_sampling ?_)
    split
    · exact triggered_watchMode _ _
    · rfl
  | watchTimerExpiry =>
    refine gatesKeptBy_next (gatesKept_sampling ?_)
    split
    · exact watchExpired_watchMode _ _
    · rfl
  | allocationPeriod => exact gatesKeptBy_next (gatesKept_allocate s).when
  | modulationPeriodStart => exact gatesKeptBy_next (gatesKept_modulationStart s).when
  | modulatorPulseStart c => exact gatesKeptBy_next (gatesKept_alter s c _ fun _ => ChannelDrive.silent_begin _)
  | modulatorPulseEnd c => exact gatesKeptBy_next (gatesKept_alter s c _ fun _ => ChannelDrive.silent_finish _ _)
  | holdOverride => exact gatesKeptBy_next (GatesKept.of_same (t := fireOverride s)).when
  | recoveryWaitExpiry => exact gatesKeptBy_next (GatesKept.of_same (t := rejoinBus s)).when
  | retryTimerExpiry => exact gatesKeptBy_next (gatesKept_retryExpired s).when
  | stallTimerExpiry => exact gatesKeptBy_next (gatesKept_stallExpired s).when
  | settleTimerExpiry => exact gatesKeptBy_next (gatesKept_settleExpired s).when
  | dwellExpiry => exact gatesKeptBy_next (gatesKept_dwellExpired s).when
  | quietWindowExpiry =>
    exact gatesKeptBy_next (GatesKept.when (.ite (gatesKept_quietExpired s) (.of_same rfl rfl)))
  | withheldReleaseExpiry => exact gatesKeptBy_next (gatesKept_withheldExpired s).when
  | statusPeriodExpiry => exact gatesKeptBy_next (GatesKept.when (.of_same (t := statusExpired s) rfl rfl))
  | storeComplete =>
    refine gatesKeptBy_next ?_
    split
    · exact GatesKept.when (.of_same rfl rfl)
    · exact .refl s
  | deadlineExpiry _ | muteExpiry _ | parkPulseEnd | confirmationWindowExpiry | springCycleEntryExpiry =>
    exact gatesKeptBy_next (.of_same rfl rfl)

/-- Every step keeps them: one of a waiting command, of a due event, or of a tick. -/
theorem gatesKeptBy_step (s : State) : GatesKeptBy s (step s) := by
  unfold step takeFront
  split
  · unfold idle
    split
    · exact gatesKeptBy_next (.of_same rfl rfl)
    · exact fun t h => (gatesKeptBy_exec _ _ t h).after (.of_same rfl rfl)
  · exact fun t h => (gatesKeptBy_exec _ _ t h).after (.of_same rfl rfl)

/-- Settles O53: what every step keeps, by the case analysis over the commands. -/
theorem outputsStayGated : Obligations.OutputsStayGated := by
  unfold Obligations.OutputsStayGated
  exact ⟨fun s t hs h => (gatesKeptBy_step s t h).gated hs, fun s t hs h => (gatesKeptBy_step s t h).follow hs,
    fun s t hs h => (gatesKeptBy_step s t h).watch hs⟩

end Sys2Proof.Machine
end

section
/-!
PROOFS. The park valve's timers and the modulator valves: what a due expiry does to the park record, the pulses a period start
forms, channel by channel, and the obligations on both (R134 to R137, R139, R141 to R143, R147, R148).
-/

namespace Sys2Proof.Machine

open Sys2Proof.Safety

-- One theorem after another: elaborated all at once they need more thread stacks than the check's memory limit grants.
set_option Elab.async false

/-! ### The park valve's timers (R139, R141 to R143) -/

theorem due_of_timer {timer : Option Nat} {x now : Nat} (h : timer = some x) (hx : x ≤ now) : due timer now = true := by
  rw [h, due_some, decide_eq_true hx]

section
variable {s : State} {x : Nat}

theorem exec_parkPulseEnd_due (h : s.park.pulseTimer = some x) (hx : x ≤ s.clock.us) :
    exec .parkPulseEnd s = .next { s with park := s.park.pulseEnd s.clock.us } := by
  show Host.Outcome.next _ = _
  rw [if_pos (due_of_timer h hx)]

theorem exec_confirmationWindowExpiry_due (h : s.park.confirmTimer = some x) (hx : x ≤ s.clock.us) :
    exec .confirmationWindowExpiry s = .next { s with park := s.park.windowExpired s.clock.us } := by
  show Host.Outcome.next _ = _
  rw [if_pos (due_of_timer h hx)]

theorem exec_retryTimerExpiry_due (h : s.park.retryTimer = some x) (hx : x ≤ s.clock.us) :
    exec .retryTimerExpiry s = .next (retryExpired s) :=
  congrArg Host.Outcome.next (if_pos (due_of_timer h hx))

end

section
variable {p : Park} (now : Nat)

theorem Park.pulseEnd_applying (h : p.state = .applying) : p.pulseEnd now = p.openWindow (now + 1500000) := by
  unfold Park.pulseEnd; rw [h]; rfl

theorem Park.pulseEnd_releasing (h : p.state = .releasing) (hpending : p.applyPending = false) :
    p.pulseEnd now = p.openWindow (now + 3000000) := by
  unfold Park.pulseEnd; rw [h, hpending]; rfl

/-- The apply attempt that became pending during the RELEASE pulse starts at its end (R142). -/
theorem Park.pulseEnd_pending (h : p.state = .releasing) (hpending : p.applyPending = true) :
    p.pulseEnd now = p.startApply now := by
  unfold Park.pulseEnd; rw [h, hpending]; rfl

theorem Park.windowExpired_pulses (h : p.state = .applying) (hp : p.pulses < 3) :
    p.windowExpired now = p.nextPulse now := by
  unfold Park.windowExpired; rw [h]; exact if_pos hp

/-- The attempt is over after the third APPLY pulse, or the one RELEASE pulse (R139, R141). -/
theorem Park.windowExpired_fails (h : (p.state = .applying ∧ 3 ≤ p.pulses) ∨ p.state = .releasing) :
    p.windowExpired now = p.fail now := by
  unfold Park.windowExpired
  rcases h with ⟨h, hp⟩ | h
  · rw [h]; exact if_neg (Nat.not_lt.2 hp)
  · rw [h]

end

/-- A retry in PARK_FAULT with park wanted (R143). -/
theorem retryExpired_wanted {s : State} (h : s.park.state = .parkFault) (hw : s.park.wanted = true) :
    retryExpired s = { s with park := s.park.startApply s.clock.us } :=
  (if_neg (by rw [h]; decide)).trans (if_pos hw)

/-- Settles O47: each expiry that is due, in the state that runs its timer. -/
theorem parkTimers : Obligations.ParkTimers := by
  intro x s hx
  refine ⟨fun ht h => ?_, fun ht h hpending => ?_, fun ht h hpending => ?_, fun ht h hpulses => ?_, fun ht h => ?_,
    fun ht h hwanted => ?_⟩
  · rw [exec_parkPulseEnd_due ht hx, Park.pulseEnd_applying _ h]; rfl
  · rw [exec_parkPulseEnd_due ht hx, Park.pulseEnd_releasing _ h hpending]; rfl
  · rw [exec_parkPulseEnd_due ht hx, Park.pulseEnd_pending _ h hpending]; rfl
  · rw [exec_confirmationWindowExpiry_due ht hx, Park.windowExpired_pulses _ h hpulses]; rfl
  · rw [exec_confirmationWindowExpiry_due ht hx, Park.windowExpired_fails _ h]; rfl
  · rw [exec_retryTimerExpiry_due ht hx, retryExpired_wanted h hwanted]; rfl

/-! ### The pulse of a command (R136) -/

/-- The steps of R136 from an on-time: the start, the end, and the least pulse of 2 ms. -/
theorem formPulse_eq {last : Option LastPulse} {v : Valve} {on now gap m start stop : Nat}
    (hstart : start = pulseStart last v now gap) (hstop : stop = min (start + on) (now + msec m)) :
    formPulse last v on now gap m =
      if start + 2000 ≤ stop then some { valve := v, start := start, stop := stop } else none := by
  subst hstart hstop
  unfold formPulse
  dsimp only
  by_cases h : min (pulseStart last v now gap + on) (now + msec m) < pulseStart last v now gap + 2000
  · rw [if_pos h, if_neg (Nat.not_le.2 h)]
  · rw [if_neg h, if_pos (Nat.not_lt.1 h)]

theorem formPulse_zero (last : Option LastPulse) (v : Valve) (now gap m : Nat) :
    formPulse last v 0 now gap m = none := by
  rw [formPulse_eq rfl rfl, if_neg (by omega)]

theorem onTime_zero (m : Nat) : onTime 0 m = 0 := by simp [onTime]

section
variable (d : ChannelDrive) {c : Command} (p : Params) (now : Nat)

theorem commandPulse_hold (h : c.dir = .hold) : commandPulse d c p now = none := by
  have hvalve : c.valve = none := by unfold Command.valve; rw [h]; exact ite_self _
  unfold commandPulse
  rw [hvalve]

/-- A direction with a valve forms its pulse by R136; with duty 0 the command names no valve, and the steps of R136 give none
either. -/
theorem commandPulse_directed {v : Valve} (h : c.dir = .apply ∧ v = .inlet ∨ c.dir = .release ∧ v = .exhaust) :
    commandPulse d c p now =
      formPulse d.last v (onTime c.duty p.modulationPeriod) now p.changeoverGap p.modulationPeriod := by
  by_cases hduty : c.duty = 0
  · have hvalve : c.valve = none := if_pos hduty
    rw [hduty, onTime_zero, formPulse_zero, commandPulse, hvalve]
  · have hvalve : c.valve = some v := by
      refine (if_neg hduty).trans ?_
      rcases h with ⟨hdir, rfl⟩ | ⟨hdir, rfl⟩ <;> rw [hdir]
    rw [commandPulse, hvalve]

end

/-! ### A channel at a period start (R134, R136, R137, R147) -/

/-- The pulse formed for a channel at a period start. -/
def ChannelDrive.formed (d : ChannelDrive) (cut : Bool) (forced : Option Valve) (p : Params) (now : Nat) : Option Pulse :=
  if cut then none
  else
    match forced with
    | some v => forcedPulse d v p now
    | none => commandPulse d d.buffer p now

section
variable (d : ChannelDrive) (cut : Bool) (forced : Option Valve) (p : Params) (now : Nat)

theorem ChannelDrive.withPulse_waiting (o : Option Pulse) : (d.withPulse o).waiting = o := by cases o <;> rfl

theorem ChannelDrive.periodStart_waiting : (d.periodStart cut forced p now).waiting = d.formed cut forced p now := by
  cases forced <;> exact d.withPulse_waiting _

theorem ChannelDrive.periodStart_running : (d.periodStart cut forced p now).running = d.running := by
  cases forced <;> (unfold periodStart withPulse; dsimp only; split <;> rfl)

theorem ChannelDrive.periodStart_buffer : (d.periodStart cut forced p now).buffer = d.buffer := by
  cases forced <;> (unfold periodStart withPulse; dsimp only; split <;> rfl)

/-- The buffer is taken where the exercise engine does not drive the channel (R136, R147). -/
theorem ChannelDrive.periodStart_active :
    (d.periodStart cut forced p now).active = if forced.isSome then d.active else d.buffer := by
  cases forced with
  | none => rfl
  | some v => unfold periodStart withPulse; dsimp only; split <;> rfl

/-- The formed pulse becomes the recorded one, and no pulse leaves the record (R136, R137). -/
theorem ChannelDrive.periodStart_last :
    (d.periodStart cut forced p now).last = (d.withPulse (d.formed cut forced p now)).last := by
  cases forced <;> rfl

/-- Crossing a period start changes no more of a channel than its pulse in progress. -/
theorem ChannelDrive.cross_frame : d.cross now = { d with running := (d.cross now).running } := by
  rcases d.cross_cases now with ⟨h, -⟩ | ⟨q, -, -, -, h⟩ <;> rw [h]

/-- A pulse formed on a channel lies in the period and lasts at least 2 ms (R136, R147). -/
theorem ChannelDrive.formed_within {q : Pulse} (h : d.formed cut forced p now = some q) :
    now ≤ q.start ∧ q.start + 2000 ≤ q.stop ∧ q.stop ≤ now + msec p.modulationPeriod := by
  have hform {last : Option LastPulse} {v : Valve} {on gap : Nat}
      (hq : formPulse last v on now gap p.modulationPeriod = some q) :
      now ≤ q.start ∧ q.start + 2000 ≤ q.stop ∧ q.stop ≤ now + msec p.modulationPeriod := by
    obtain ⟨-, hstart, hlength, hstop⟩ := formPulse_spec hq
    exact ⟨hstart ▸ pulseStart_ge _ _ _ _, hlength, hstop⟩
  unfold formed at h
  split at h
  · cases h
  · split at h
    · exact hform h
    · unfold commandPulse at h
      split at h
      · exact hform h
      · cases h

end

/-! ### The channels and the exercise engine at MODULATION_PERIOD_START (R136, R147, R148) -/

/-- The pulse that a period start forms on a channel. -/
def pulseFormed (s : State) (c : Channel) : Option Pulse :=
  s.valve.chan[c].formed (outputsCut s c) (s.exercise.forces c) s.settings.params s.clock.us

theorem exec_modulationPeriodStart_due {s : State} (h : s.valve.timer ≤ s.clock.us) :
    exec .modulationPeriodStart s = .next (modulationStart s) := congrArg Host.Outcome.next (if_pos h)

/-- The end of an exercise is the engine at IDLE, whatever it was before (R148). -/
theorem endExercise_exercise (s : State) (why : EndReason) :
    (endExercise s why).exercise = { s.exercise with running := false } := by
  cases h : s.exercise.running with
  | false => rw [endExercise_idle why h, ← h]
  | true =>
    unfold endExercise
    rw [if_neg (by rw [h]; decide)]
    dsimp only
    split
    · exact answer_exercise _ _ _ _ _ _ _ _
    · rfl

/-- The engine at a period start: it takes its channel, or gives it up, and goes on with the pulse formed (R147). -/
def Exercise.atPeriod (x : Exercise) (formed : Bool) : Exercise :=
  let y := { x with owning := if x.running then x.channel else none }
  if x.running && formed then y.pulsed else y

/-- The cycle that completes the count is formed here (R148). -/
def Exercise.completes (x : Exercise) (formed : Bool) : Bool :=
  formed && x.next = .exhaust && (x.atPeriod formed).countDone

theorem exercisePeriod_eq (s : State) (formed : Bool) : exercisePeriod s formed =
    if s.exercise.completes formed then
      endExercise { s with exercise := s.exercise.atPeriod formed } .countComplete
    else { s with exercise := s.exercise.atPeriod formed } := rfl

theorem exercisePeriod_valve (s : State) (formed : Bool) : (exercisePeriod s formed).valve = s.valve := by
  rw [exercisePeriod_eq]
  split
  · exact endExercise_valve _ _
  · rfl

theorem exercisePeriod_clock (s : State) (formed : Bool) : (exercisePeriod s formed).clock = s.clock := by
  rw [exercisePeriod_eq]
  split
  · exact endExercise_clock _ _
  · rfl

theorem exercisePeriod_exercise (s : State) (formed : Bool) : (exercisePeriod s formed).exercise =
    if s.exercise.completes formed then { s.exercise.atPeriod formed with running := false }
    else s.exercise.atPeriod formed := by
  rw [exercisePeriod_eq]
  split
  · exact endExercise_exercise _ _
  · rfl

section
variable (s : State) (c : Channel)

theorem modulationStart_clock : (modulationStart s).clock = s.clock := exercisePeriod_clock _ _

theorem modulationStart_timer :
    (modulationStart s).valve.timer = s.clock.us + s.settings.params.modulationPeriod * 1000 :=
  congrArg ValveDrive.timer (exercisePeriod_valve _ _)

theorem modulationStart_chan : (modulationStart s).valve.chan[c] =
    (s.valve.chan[c].periodStart (outputsCut s c) (s.exercise.forces c) s.settings.params s.clock.us).cross
      s.clock.us := by
  unfold modulationStart
  rw [exercisePeriod_valve]
  exact mapAll_get _ _ c

theorem modulationStart_waiting : (modulationStart s).valve.chan[c].waiting = pulseFormed s c := by
  rw [modulationStart_chan, ChannelDrive.cross_frame, ChannelDrive.periodStart_waiting, pulseFormed]

theorem modulationStart_buffer : (modulationStart s).valve.chan[c].buffer = s.valve.chan[c].buffer := by
  rw [modulationStart_chan, ChannelDrive.cross_frame, ChannelDrive.periodStart_buffer]

theorem modulationStart_active : (modulationStart s).valve.chan[c].active =
    if (s.exercise.forces c).isSome then s.valve.chan[c].active else s.valve.chan[c].buffer := by
  rw [modulationStart_chan, ChannelDrive.cross_frame, ChannelDrive.periodStart_active]

theorem modulationStart_last :
    (modulationStart s).valve.chan[c].last = (s.valve.chan[c].withPulse (pulseFormed s c)).last := by
  rw [modulationStart_chan, ChannelDrive.cross_frame, ChannelDrive.periodStart_last, pulseFormed]

end

section
variable {s : State} {c : Channel}

theorem pulseFormed_within {q : Pulse} (h : pulseFormed s c = some q) :
    s.clock.us ≤ q.start ∧ q.start + 2000 ≤ q.stop ∧ q.stop ≤ (modulationStart s).valve.timer := by
  rw [modulationStart_timer]
  exact ChannelDrive.formed_within _ _ _ _ _ h

theorem pulseFormed_cut (h : outputsCut s c = true) : pulseFormed s c = none := by
  unfold pulseFormed ChannelDrive.formed
  exact if_pos h

/-- A pulse of the running valve that begins at once keeps it energised (R137). -/
theorem modulationStart_continues {p q : Pulse} (hp : s.valve.chan[c].running = some p) (hq : pulseFormed s c = some q)
    (hv : q.valve = p.valve) (hs : q.start ≤ s.clock.us) : (modulationStart s).valve.chan[c].running = some p := by
  rw [modulationStart_chan]
  have hcont := (ChannelDrive.continues_iff (s.valve.chan[c].periodStart (outputsCut s c) (s.exercise.forces c)
    s.settings.params s.clock.us) s.clock.us).2
      ⟨p, q, by rw [ChannelDrive.periodStart_running, hp], by rw [ChannelDrive.periodStart_waiting]; exact hq, hv, hs⟩
  rcases ChannelDrive.cross_cases (s.valve.chan[c].periodStart (outputsCut s c) (s.exercise.forces c) s.settings.params
    s.clock.us) s.clock.us with ⟨h, -⟩ | ⟨-, -, -, hnot, -⟩
  · rw [h, ChannelDrive.periodStart_running, hp]
  · rw [hcont] at hnot; cases hnot

end

/-! ### A period start without an exercise (R136) -/

section
variable {s : State} (hidle : s.exercise.running = false)
include hidle

theorem forces_idle (c : Channel) : s.exercise.forces c = none := by
  unfold Exercise.forces
  rw [hidle]
  rfl

theorem modulationStart_idle : modulationStart s =
    { s with valve := (modulationStart s).valve, exercise := { s.exercise with owning := none } } := by
  have hformed : forcedFormed s = false := by
    unfold forcedFormed
    split
    · rw [hidle]; rfl
    · rfl
  unfold modulationStart
  rw [hformed, exercisePeriod_eq]
  unfold Exercise.completes Exercise.atPeriod
  dsimp only
  rw [hidle]
  rfl

/-- The pulse of the buffer where the channel is not cut (R134, R136). -/
theorem pulseFormed_idle {c : Channel} (hcut : outputsCut s c = false) :
    pulseFormed s c = commandPulse s.valve.chan[c] s.valve.chan[c].buffer s.settings.params s.clock.us := by
  unfold pulseFormed
  rw [hcut, forces_idle hidle]
  rfl

theorem pulseFormed_hold {c : Channel} (h : s.valve.chan[c].buffer.dir = .hold) : pulseFormed s c = none := by
  cases hcut : outputsCut s c with
  | true => exact pulseFormed_cut hcut
  | false => rw [pulseFormed_idle hidle hcut, commandPulse_hold _ _ _ h]

theorem pulseFormed_directed {c : Channel} {v : Valve} {start stop : Nat} (hcut : outputsCut s c = false)
    (h : s.valve.chan[c].buffer.dir = .apply ∧ v = .inlet ∨ s.valve.chan[c].buffer.dir = .release ∧ v = .exhaust)
    (hstart : start = pulseStart s.valve.chan[c].last v s.clock.us s.settings.params.changeoverGap)
    (hstop : stop = min (start + onTime s.valve.chan[c].buffer.duty s.settings.params.modulationPeriod)
      (modulationStart s).valve.timer) :
    pulseFormed s c = if start + 2000 ≤ stop then some { valve := v, start := start, stop := stop } else none := by
  rw [modulationStart_timer] at hstop
  rw [pulseFormed_idle hidle hcut, commandPulse_directed _ _ _ h, formPulse_eq hstart hstop]

end

/-- Every pulse in progress at a period start: it goes on, is taken on by one of its valve, or ends (R137; log entry 15). -/
theorem modulationStart_crosses {s : State} {c : Channel} {p : Pulse} (hp : s.valve.chan[c].running = some p) :
    (s.clock.us < p.stop → (modulationStart s).valve.chan[c].running = some p) ∧
    (p.stop ≤ s.clock.us → (∀ q : Pulse, pulseFormed s c = some q → q.valve = p.valve → s.clock.us < q.start) →
      (modulationStart s).valve.chan[c].running = none) := by
  rw [modulationStart_chan]
  have hrunning : (s.valve.chan[c].periodStart (outputsCut s c) (s.exercise.forces c) s.settings.params
      s.clock.us).running = some p := by rw [ChannelDrive.periodStart_running, hp]
  have hwaiting := ChannelDrive.periodStart_waiting s.valve.chan[c] (outputsCut s c) (s.exercise.forces c)
    s.settings.params s.clock.us
  generalize s.valve.chan[c].periodStart (outputsCut s c) (s.exercise.forces c) s.settings.params s.clock.us = d at *
  rcases d.cross_cases s.clock.us with ⟨h, hor⟩ | ⟨p', hp', hstop, -, h⟩
  · rw [h]
    refine ⟨fun _ => hrunning, fun hstop hq => ?_⟩
    rcases hor p hrunning with hlater | hcont
    · exact absurd hstop (Nat.not_le.2 hlater)
    · obtain ⟨p', q, hp', hq', hvalve, hstart⟩ := (d.continues_iff s.clock.us).1 hcont
      obtain rfl : p' = p := Option.some.inj (hp'.symm.trans hrunning)
      exact absurd hstart (Nat.not_le.2 (hq q (hwaiting.symm.trans hq') hvalve))
  · obtain rfl : p' = p := Option.some.inj (hp'.symm.trans hrunning)
    rw [h]
    exact ⟨fun hlater => absurd hstop (Nat.not_le.2 hlater), fun _ _ => rfl⟩

theorem modulationStart_silent {s : State} {c : Channel} (h : s.valve.chan[c].running = none) :
    (modulationStart s).valve.chan[c].running = none := by
  rw [modulationStart_chan]
  rcases ChannelDrive.cross_cases (s.valve.chan[c].periodStart (outputsCut s c) (s.exercise.forces c) s.settings.params
    s.clock.us) s.clock.us with ⟨hstands, -⟩ | ⟨-, -, -, -, hends⟩
  · rw [hstands, ChannelDrive.periodStart_running, h]
  · rw [hends]

/-! ### A period start with an exercise (R147, R148) -/

section
variable {s : State} {c : Channel} (hrun : s.exercise.running = true) (hchannel : s.exercise.channel = some c)
include hrun hchannel

theorem forces_exercised : s.exercise.forces c = some s.exercise.next := by
  unfold Exercise.forces
  rw [hrun, hchannel, decide_eq_true rfl]
  rfl

/-- The engine goes on just where the channel gets its pulse. -/
theorem forcedFormed_exercised : forcedFormed s = (pulseFormed s c).isSome := by
  unfold forcedFormed pulseFormed ChannelDrive.formed
  rw [hchannel, forces_exercised hrun hchannel]
  dsimp only
  rw [hrun]
  cases outputsCut s c <;> rfl

theorem pulseFormed_exercised {start stop : Nat} (hcut : outputsCut s c = false)
    (hstart : start = pulseStart s.valve.chan[c].last s.exercise.next s.clock.us s.settings.params.changeoverGap)
    (hstop : stop = min (start + min s.settings.params.exercisePulse s.settings.params.modulationPeriod * 1000)
      (s.clock.us + s.settings.params.modulationPeriod * 1000)) :
    pulseFormed s c =
      if start + 2000 ≤ stop then some { valve := s.exercise.next, start := start, stop := stop } else none := by
  unfold pulseFormed ChannelDrive.formed
  rw [hcut, forces_exercised hrun hchannel]
  exact formPulse_eq hstart hstop

theorem modulationStart_exercise : (modulationStart s).exercise =
    if s.exercise.completes (pulseFormed s c).isSome then
      { s.exercise.atPeriod (pulseFormed s c).isSome with running := false }
    else s.exercise.atPeriod (pulseFormed s c).isSome := by
  unfold modulationStart
  rw [exercisePeriod_exercise, forcedFormed_exercised hrun hchannel]

theorem modulationStart_exercise_unformed (h : pulseFormed s c = none) :
    (modulationStart s).exercise = { s.exercise with owning := some c } := by
  rw [modulationStart_exercise hrun hchannel, h]
  unfold Exercise.completes Exercise.atPeriod
  dsimp only
  rw [hrun, hchannel]
  rfl

/-- After an APPLY pulse the next is RELEASE (R147). -/
theorem modulationStart_exercise_inlet {q : Pulse} (h : pulseFormed s c = some q) (hv : s.exercise.next = .inlet) :
    (modulationStart s).exercise = { s.exercise with owning := some c, next := .exhaust } := by
  rw [modulationStart_exercise hrun hchannel, h]
  unfold Exercise.completes Exercise.atPeriod Exercise.pulsed
  dsimp only
  rw [hrun, hchannel, hv]
  rfl

/-- A RELEASE pulse formed: the next is APPLY, and a cycle is counted (R147). -/
theorem atPeriod_exhaust (hv : s.exercise.next = .exhaust) : s.exercise.atPeriod true =
    { s.exercise with
      owning := some c, next := .inlet
      cycles := if s.exercise.cycles < 65535 then s.exercise.cycles + 1 else 0
      wrapped := s.exercise.wrapped || !decide (s.exercise.cycles < 65535) } := by
  unfold Exercise.atPeriod Exercise.pulsed
  dsimp only
  rw [hrun, hchannel, hv]
  rfl

/-- The engine after a RELEASE pulse is IDLE where the cycle was the last of its count (R148). -/
theorem modulationStart_exercise_exhaust {q : Pulse} (h : pulseFormed s c = some q) (hv : s.exercise.next = .exhaust) :
    (modulationStart s).exercise =
      { s.exercise with
        owning := some c, next := .inlet
        running := !(s.exercise.atPeriod true).countDone
        cycles := if s.exercise.cycles < 65535 then s.exercise.cycles + 1 else 0
        wrapped := s.exercise.wrapped || !decide (s.exercise.cycles < 65535) } := by
  have hat := atPeriod_exhaust hrun hchannel hv
  have hdone : s.exercise.completes true = (s.exercise.atPeriod true).countDone := by
    unfold Exercise.completes
    rw [hv]
    rfl
  rw [modulationStart_exercise hrun hchannel, h, Option.isSome_some, hdone]
  cases (s.exercise.atPeriod true).countDone with
  | true => rw [if_pos rfl, hat]; rfl
  | false => rw [if_neg (by decide), hat, Bool.not_false, ← hrun]

theorem modulationStart_owning : (modulationStart s).exercise.owning = some c := by
  cases h : pulseFormed s c with
  | none => rw [modulationStart_exercise_unformed hrun hchannel h]
  | some q =>
    cases hnext : s.exercise.next with
    | inlet => rw [modulationStart_exercise_inlet hrun hchannel h hnext]
    | exhaust => rw [modulationStart_exercise_exhaust hrun hchannel h hnext]

/-- A COUNT exercise goes on after a RELEASE pulse while its cycles are not its count (R148). -/
theorem modulationStart_running_count {q : Pulse} {n : Nat} (h : pulseFormed s c = some q)
    (hv : s.exercise.next = .exhaust) (hm : s.exercise.mode = some (.count n)) :
    (modulationStart s).exercise.running = decide ((modulationStart s).exercise.cycles ≠ n) := by
  have hcount : (s.exercise.atPeriod true).countDone =
      decide ((if s.exercise.cycles < 65535 then s.exercise.cycles + 1 else 0) = n) := by
    unfold Exercise.countDone
    rw [atPeriod_exhaust hrun hchannel hv]
    dsimp only
    rw [hrun, hm]
    rfl
  rw [modulationStart_exercise_exhaust hrun hchannel h hv]
  dsimp only
  rw [hcount, decide_not]

theorem modulationStart_running_freeRun {q : Pulse} (h : pulseFormed s c = some q) (hv : s.exercise.next = .exhaust)
    (hm : s.exercise.mode = some .freeRun) : (modulationStart s).exercise.running = true := by
  have hcount : (s.exercise.atPeriod true).countDone = false := by
    unfold Exercise.countDone
    rw [atPeriod_exhaust hrun hchannel hv]
    dsimp only
    rw [hm]
    exact Bool.and_false _
  rw [modulationStart_exercise_exhaust hrun hchannel h hv]
  dsimp only
  rw [hcount, Bool.not_false]

end

/-- Settles O45: the period start channel by channel, without an exercise and on the exercised channel. -/
theorem modulationForms : Obligations.ModulationForms := by
  refine ⟨fun s hdue hidle => ?_, fun c on start stop v s hdue hrun hchannel hv hon hstart hstop => ?_⟩
  · refine ⟨_, exec_modulationPeriodStart_due hdue, modulationStart_idle hidle, modulationStart_timer s, fun c => ?_⟩
    simp only [modulationStart_waiting, modulationStart_last]
    refine ⟨modulationStart_buffer s c, ?_, pulseFormed_cut, pulseFormed_hold hidle, ?_, ?_, fun p hp => ?_,
      modulationStart_silent, fun p hp => ?_⟩
    · rw [modulationStart_active, forces_idle hidle]; rfl
    · intro v on start stop hcut hdir hon hstart hstop
      subst hon
      exact pulseFormed_directed hidle hcut hdir hstart hstop
    · intro hnone; rw [hnone]; rfl
    · obtain ⟨hstart, hlength, hstop⟩ := pulseFormed_within hp
      rw [hp]
      exact ⟨hstart, hlength, hstop, rfl⟩
    · obtain ⟨hlater, hover⟩ := modulationStart_crosses hp
      exact ⟨hlater, hover, fun q hq => modulationStart_continues hp hq⟩
  · subst hv hon
    have hformed (hcut : outputsCut s c = false) := pulseFormed_exercised hrun hchannel hcut hstart hstop
    refine ⟨_, exec_modulationPeriodStart_due hdue, modulationStart_owning hrun hchannel, modulationStart_timer s,
      modulationStart_buffer s c, ?_, fun hnone => ?_, fun hcut hlong => ?_⟩
    · rw [modulationStart_active, forces_exercised hrun hchannel]; rfl
    · have h : pulseFormed s c = none := by
        cases hcut : outputsCut s c with
        | true => exact pulseFormed_cut hcut
        | false => rw [hformed hcut, if_neg (Nat.not_le.2 (hnone.resolve_left (by rw [hcut]; decide)))]
      rw [modulationStart_waiting, modulationStart_exercise_unformed hrun hchannel h]
      exact ⟨h, rfl, rfl, hrun⟩
    · have h := (hformed hcut).trans (if_pos hlong)
      refine ⟨by rw [modulationStart_waiting, h], fun hin => ?_, fun hex => ?_⟩
      · rw [modulationStart_exercise_inlet hrun hchannel h hin]
        exact ⟨rfl, rfl, hrun⟩
      · have hat := modulationStart_exercise_exhaust hrun hchannel h hex
        exact ⟨by rw [hat], by rw [hat], modulationStart_running_freeRun hrun hchannel h hex,
          fun _ => modulationStart_running_count hrun hchannel h hex⟩

/-! ### The two pulse events (R136, R137) -/

theorem ChannelDrive.begin_due {d : ChannelDrive} {p : Pulse} {now : Nat} (h : d.waiting = some p) (hs : p.start ≤ now) :
    d.begin now = { d with running := some p, waiting := none } := by
  unfold begin
  rw [h]
  exact if_pos hs

theorem ChannelDrive.begin_none {d : ChannelDrive} (now : Nat) (h : d.waiting = none) : d.begin now = d := by
  unfold begin
  rw [h]

theorem ChannelDrive.finish_over {d : ChannelDrive} {p : Pulse} {now boundary : Nat} (h : d.running = some p)
    (hs : p.stop ≤ now) (hb : p.stop ≠ boundary) :
    d.finish now boundary = ({ d with running := none } : ChannelDrive).begin now := by
  rcases d.finish_cases now boundary with ⟨-, hstands⟩ | ⟨-, -, -, -, hover⟩
  · rcases hstands p h with hlater | hboundary
    · exact absurd hs (Nat.not_le.2 hlater)
    · exact absurd hboundary hb
  · exact hover

/-- The end at a period end is left to the period start of that instant (log entry 15). -/
theorem ChannelDrive.finish_boundary {d : ChannelDrive} {p : Pulse} {now boundary : Nat} (h : d.running = some p)
    (hb : p.stop = boundary) : d.finish now boundary = d := by
  rcases d.finish_cases now boundary with ⟨hstands, -⟩ | ⟨q, hq, -, hne, -⟩
  · exact hstands
  · rw [h] at hq
    cases hq
    exact absurd hb hne

section
variable {s : State} {c : Channel} {p : Pulse}

theorem exec_modulatorPulseStart_due (h : s.valve.chan[c].waiting = some p) (hs : p.start ≤ s.clock.us) :
    exec (.modulatorPulseStart c) s = .next { s with valve := { s.valve with
      chan := put s.valve.chan c { s.valve.chan[c] with running := some p, waiting := none } } } := by
  show Host.Outcome.next { s with valve := { s.valve with chan := put s.valve.chan c (s.valve.chan[c].begin _) } } = _
  rw [ChannelDrive.begin_due h hs]

theorem exec_modulatorPulseEnd_over (h : s.valve.chan[c].running = some p) (hs : p.stop ≤ s.clock.us)
    (hb : p.stop ≠ s.valve.timer) :
    exec (.modulatorPulseEnd c) s = .next { s with valve := { s.valve with
      chan := put s.valve.chan c (({ s.valve.chan[c] with running := none } : ChannelDrive).begin s.clock.us) } } := by
  show Host.Outcome.next { s with valve := { s.valve with chan := put s.valve.chan c (s.valve.chan[c].finish _ _) } } = _
  rw [ChannelDrive.finish_over h hs hb]

theorem exec_modulatorPulseEnd_boundary (h : s.valve.chan[c].running = some p) (hb : p.stop = s.valve.timer) :
    exec (.modulatorPulseEnd c) s = .next s := by
  show Host.Outcome.next { s with valve := { s.valve with chan := put s.valve.chan c (s.valve.chan[c].finish _ _) } } = _
  rw [ChannelDrive.finish_boundary h hb, put_self]

end

/-- Settles O46: the two events of a pulse, and both orders of its end and the period start of that instant. -/
theorem pulseBeginsEnds : Obligations.PulseBeginsEnds := by
  refine ⟨fun c p s => ⟨exec_modulatorPulseStart_due, fun hp hs hb hnone => ?_⟩,
    fun c p q s u hp hb hs hperiod hu hq hvalve hstart => ?_⟩
  · rw [exec_modulatorPulseEnd_over hp hs hb, ChannelDrive.begin_none _ (by exact hnone)]
  · obtain rfl : u = modulationStart s := by
      rw [exec_modulationPeriodStart_due (hb ▸ hs)] at hu
      exact (Host.Outcome.next.inj hu).symm
    have hgoes := modulationStart_continues hp ((modulationStart_waiting s c).symm.trans hq) hvalve hstart
    refine ⟨exec_modulatorPulseEnd_boundary hp hb, hgoes, ?_⟩
    have hnow : q.start ≤ (modulationStart s).clock.us := by rw [modulationStart_clock]; exact hstart
    rw [exec_modulatorPulseEnd_over hgoes (by rw [modulationStart_clock]; exact hs)
      (by rw [modulationStart_timer]; omega), ChannelDrive.begin_due (by exact hq) hnow]

end Sys2Proof.Machine
end

section
/-!
PROOFS. The drive-off, its undoing, the promotion at the dwell expiry, and the trip by the brake cut-out line: what each does to
the coordinator's record, the park valve and the outputs, and the obligations on them (R133, R134, R138, R140, R141, R157, R161,
R169, R173, R178, R179).
-/

namespace Sys2Proof.Machine

open Sys2Proof.Safety

-- One theorem after another: elaborated all at once they need more thread stacks than the check's memory limit grants.
set_option Elab.async false

/-! ### States of the coordinator -/

/-- A change of state from any but AUTO_PARK ends no exercise (R148). -/
theorem setStandstill_outside {s : State} (st : Standstill) (h : s.coord.state ≠ .autoPark) :
    setStandstill s st = { s with coord := s.coord.enter st } := by
  have hstays : ¬ (decide (s.coord.state = .autoPark) && st != .autoPark) = true := by
    rw [decide_eq_false h, Bool.false_and]; decide
  unfold setStandstill
  rw [if_neg hstays]

theorem setStandstill_idle {s : State} (st : Standstill) (h : s.exercise.running = false) :
    setStandstill s st = { s with coord := s.coord.enter st } := by
  unfold setStandstill
  rw [endExercise_idle _ h, ite_self]

theorem enterRun_idle {s : State} (h : s.exercise.running = false) : enterRun s =
    { s with coord := s.coord.startRun (s.clock.us + msec s.settings.params.settleTime) s.vref } := by
  unfold enterRun
  rw [endExercise_idle _ h, ite_self]

/-- Slot 4 posted as the first PARK entry makes park wanted (R138, R189). -/
theorem postSlot4_wanted {s : State} (hp : anyPark s.table = false) (h4 : s.table[(4 : Slot)] = none) :
    postSlot4 s = parkBecomesWanted { s with table := put s.table 4 (some (parkEntry 19)) } := by
  unfold postSlot4
  rw [putTable_wanted _ _ (anyPark_homePost_park h4) hp, homePost_vacant _ _ _ h4, newEntry_park]

theorem releaseSlot3_vacant {s : State} (h : s.table[(3 : Slot)] = none) : releaseSlot3 s = s := by
  unfold releaseSlot3
  rw [slotIs_none _ h]
  rfl

/-! ### The dwell expiry (R173) -/

theorem exec_dwellExpiry_due {s : State} {x : Nat} (h : s.coord.dwellTimer = some x) (hx : x ≤ s.clock.us)
    (hst : s.coord.state = .stopHold) :
    exec .dwellExpiry s = .next (considerPromotion { s with coord := { s.coord with dwellTimer := none } }) := by
  show Host.Outcome.next _ = _
  rw [if_pos (due_of_timer h hx), dwellExpired, if_pos hst]

section
variable {s : State}

theorem considerPromotion_promotes (hs : s.settings.params.releaseReserve ≤ supply s.sampling 1)
    (hc : s.coord.springCycles.length < s.settings.params.cycleBudget) : considerPromotion s = promote s :=
  if_pos (by rw [decide_eq_true hs, decide_eq_true hc]; rfl)

theorem considerPromotion_refuses (h : supply s.sampling 1 < s.settings.params.releaseReserve ∨
    s.settings.params.cycleBudget ≤ s.coord.springCycles.length) : considerPromotion s =
      { s with coord := { s.coord with
        promotionRefused := min 255 (s.coord.promotionRefused + 1)
        dwellTimer := some (s.clock.us + s.settings.params.promoteDelay * 1000000) } } := by
  refine if_neg fun hboth => ?_
  simp only [Bool.and_eq_true, decide_eq_true_eq] at hboth
  omega

/-- A promotion with the valve RELEASED: the first PARK entry starts an apply attempt, so slot 3 is not handed over yet
(R138, R174, R175). -/
theorem promote_released (hst : s.coord.state = .stopHold) (hp : anyPark s.table = false)
    (h4 : s.table[(4 : Slot)] = none) (hr : s.park.state = .released) : promote s =
      { s with coord := (s.coord.enter .autoPark).closeWatch
               table := put s.table 4 (some (parkEntry 19))
               park := s.park.becomesWanted s.clock.us } := by
  have happlying : (s.park.becomesWanted s.clock.us).state = .applying := by
    rw [Park.becomesWanted_starts _ (.inl hr)]
  have hnot : (s.park.becomesWanted s.clock.us).state ≠ .applied := by rw [happlying]; decide
  unfold promote
  rw [setStandstill_outside _ (by rw [hst]; decide),
    postSlot4_wanted (s := { s with coord := s.coord.enter .autoPark }) hp h4, handover_eq rfl]
  unfold parkBecomesWanted
  dsimp only
  rw [decide_eq_false hnot, handedOver_not]

end

/-- Settles O49: promotion where air and budget allow it, else a refusal and a new dwell. -/
theorem dwellExpires : Obligations.DwellExpires := by
  intro x s hx hdue hst
  rw [exec_dwellExpiry_due hx hdue hst]
  refine ⟨fun hs hc h4 hp hr => ?_, fun h => ?_⟩
  · rw [considerPromotion_promotes (s := { s with coord := { s.coord with dwellTimer := none } }) hs hc,
      promote_released (s := { s with coord := { s.coord with dwellTimer := none } }) hst hp h4 hr]
    refine ⟨_, rfl, rfl, rfl, fun j hj => put_slot_other _ _ hj, ⟨_, put_slot_same _ _ _, rfl, rfl, rfl⟩, ?_⟩
    exact Park.becomesWanted_starts _ (.inl hr)
  · exact congrArg _ (considerPromotion_refuses (s := { s with coord := { s.coord with dwellTimer := none } }) h)

/-! ### The drive-off undone (R179) -/

theorem exec_withheldReleaseExpiry_due {s : State} {x : Nat} (h : s.coord.withheldTimer = some x) (hx : x ≤ s.clock.us)
    (hst : s.coord.state = .run) : exec .withheldReleaseExpiry s = .next (undoDriveOff s) := by
  show Host.Outcome.next _ = _
  rw [if_pos (due_of_timer h hx), withheldExpired, if_pos hst]

/-- The drive-off undone before the valve left APPLIED, slots 3 and 4 being vacant: the valve keeps the springs, and there is
no slot 3 to hand over. -/
theorem undoDriveOff_applied {s : State} (hst : s.coord.state = .run) (hp : anyPark s.table = false)
    (h3 : s.table[(3 : Slot)] = none) (h4 : s.table[(4 : Slot)] = none) (ha : s.park.state = .applied) :
    undoDriveOff s =
      { s with
        coord := { (s.coord.enter .autoPark).window
            (s.clock.us + sec s.settings.params.quietWindow) s.vref with
          airLow := true, watchOpen := false, withheldTimer := none }
        table := put s.table 4 (some (parkEntry 19))
        park := { s.park with wanted := true, withheld := false } } := by
  have hvacant : (put s.table 4 (some (parkEntry 19)))[(3 : Slot)] = none :=
    (put_slot_other _ _ (by decide)).trans h3
  unfold undoDriveOff
  dsimp only
  rw [setStandstill_outside _ (by rw [hst]; decide),
    postSlot4_wanted (s := { s with coord := s.coord.enter .autoPark }) hp h4, handover_eq rfl]
  unfold startWindow parkBecomesWanted
  dsimp only
  rw [handedOver_vacant _ hvacant, Park.becomesWanted_applied _ (.inl ha)]
  rfl

/-- Settles O51: the undoing posts slot 4, at which a valve still APPLIED keeps the springs. -/
theorem driveOffUndone : Obligations.DriveOffUndone := by
  intro x s hx hdue hst hp h3 h4 ha
  rw [exec_withheldReleaseExpiry_due hx hdue hst, undoDriveOff_applied hst hp h3 h4 ha]
  exact ⟨_, rfl, rfl, rfl, rfl, fun j hj => put_slot_other _ _ hj, _, put_slot_same _ _ _, rfl⟩

/-! ### The drive-off (R178, R179) -/

/-- The drive request going active arms no override (R21). -/
theorem exec_driveRequest_on {s : State} (h : s.lines.drive = false) : exec (.driveRequestChange true) s =
    .next (coordinatorDrive (evalOverride { s with lines := { s.lines with drive := true } })) := by
  show Host.Outcome.next _ = _
  rw [if_neg (by rw [h]; decide)]
  unfold driveChanged
  rw [Bool.not_true, Bool.or_false]

section
variable {s : State}

theorem evalReturn_outside (h : s.coord.state ≠ .stopHold) : evalReturn s = s :=
  if_neg (by rw [decide_eq_false h]; exact Bool.false_ne_true)

theorem moveOffAsked_of {x : Nat} (hd : s.lines.drive = true) (hp : s.pedal.travel = some x) (hx : x ≤ 50) :
    moveOffAsked s = true := by
  unfold moveOffAsked
  rw [hd, hp]
  exact decide_eq_true hx

/-- The drive request active in AUTO_PARK: not the return from STOP_HOLD, but the drive-off where R178 allows it. -/
theorem coordinatorDrive_drivesOff {x : Nat} (hd : s.lines.drive = true) (hst : s.coord.state = .autoPark)
    (hp : s.pedal.travel = some x) (hx : x ≤ 50) (hv : s.vref = 0) : coordinatorDrive s = driveOff s := by
  have hcond : driveOffConditions s = true := by
    unfold driveOffConditions
    rw [hst, moveOffAsked_of hd hp hx, hv]
    rfl
  unfold coordinatorDrive
  rw [if_pos hd, evalReturn_outside (by rw [hst]; decide), evalDriveOff, if_pos hcond]

/-- A table without the last PARK entry, with the conditions of R140 met: the springs APPLIED start their release (R138). -/
theorem putTable_releases {t : Table} (h : anyPark t = false) (h0 : anyPark s.table = true)
    (ha : s.park.state = .applied) (hair : s.settings.params.releaseReserve ≤ supply s.sampling 1)
    (hrear : s.circuit[(1 : CircuitId)].mode = .electronic) : putTable s t =
      { s with table := t, park := { s.park with wanted := false }.startRelease s.clock.us
               coord := s.coord.releaseStarted s.clock.ms } := by
  rw [putTable_ceases _ _ h h0]
  exact parkCeases_releases (s := { s with table := t }) ha (releaseConditions_of h hair hrear)

/-- A drive-off that removes the last PARK entry with the conditions of R140 met: the springs APPLIED start their release
(R138, R140, R141, R178, R179). -/
theorem driveOff_releases {e : Entry} (hx : s.exercise.running = false) (he : s.table[(4 : Slot)] = some e)
    (hc : e.cls = .park) (hs : e.state = .active) (hlast : anyPark (put s.table 4 none) = false)
    (h3 : s.table[(3 : Slot)] = none) (ha : s.park.state = .applied)
    (hair : s.settings.params.releaseReserve ≤ supply s.sampling 1)
    (hrear : s.circuit[(1 : CircuitId)].mode = .electronic) : driveOff s =
      { s with
        coord := { s.coord.startRun (s.clock.us + msec s.settings.params.settleTime) s.vref with
          watchOpen := true }.releaseStarted s.clock.ms
        table := put s.table 4 none
        park := { s.park with wanted := false }.startRelease s.clock.us } := by
  have hremoved : homeRelease s.table 4 = put s.table 4 none := by
    rw [homeRelease_retire he (by rw [hs]; decide), Entry.retire_park hc]
  have hpark : anyPark s.table = true := anyPark_of_slot he hc
  have hends (k : Coordinator) : endsPark { s with coord := k } = true := by
    unfold endsPark
    dsimp only
    rw [hremoved, hpark, hlast]
    rfl
  unfold driveOff
  rw [releaseSlot3_vacant h3, enterRun_idle hx]
  dsimp only
  rw [hends, hremoved]
  exact putTable_releases hlast hpark ha hair hrear

end

/-- Settles O34: the request reaches the coordinator, whose drive-off removes the last PARK entry. -/
theorem driveOffReleases : Obligations.DriveOffReleases := by
  intro e x s hd hst hx htravel hle hv he hc hs hlast h3 ha hair hrear
  have hdrive := coordinatorDrive_drivesOff
    (s := evalOverride { s with lines := { s.lines with drive := true } }) rfl hst htravel hle hv
  have hoff := driveOff_releases
    (s := evalOverride { s with lines := { s.lines with drive := true } }) hx he hc hs hlast h3 ha hair hrear
  rw [exec_driveRequest_on hd, hdrive, hoff]
  refine ⟨_, rfl, rfl, rfl, ?_, rfl⟩
  have hsettle : (if s.vref = 0 then some (s.clock.us + msec s.settings.params.settleTime) else none) =
      some (s.clock.us + s.settings.params.settleTime * 1000) := if_pos hv
  rw [← hsettle]
  rfl

/-! ### No exercise runs after a trip (R148) -/

theorem modesWritten_ends {s : State} (mode : CircuitId → Mode) (h : s.exercise.running = false) :
    (modesWritten s mode).exercise.running = false := by
  unfold modesWritten
  split
  · rw [endExercise_exercise]
  · rw [writeModes_exercise, h]

theorem coordinatorModes_ends {s : State} (left : Bool) (h : s.exercise.running = false) :
    (coordinatorModes s left).exercise.running = false := by
  unfold coordinatorModes
  split
  · unfold promote postSlot4
    rw [handover_exercise, putTable_exercise, setStandstill_idle _ h, h]
  · unfold evalStopHold
    split
    · unfold enterStopHold
      rw [startWindow_exercise, setStandstill_idle _ (by rw [postSlot3_exercise, h])]
      exact h
    · exact h

theorem settleModes_ends {s : State} (h : s.exercise.running = false) : (settleModes s).exercise.running = false := by
  unfold settleModes
  rcases applyModes_cases s fun k => decideMode s.circuit[k].mode s.circuit[k].causes with
    ⟨hsame, -⟩ | ⟨u, left, hmodes, rfl | rfl⟩
  · rw [hsame, h]
  · rw [hmodes]
    exact coordinatorModes_ends _ (modesWritten_ends _ h)
  · rw [hmodes]
    exact coordinatorModes_ends _ (by rw [reevaluateRelease_exercise, modesWritten_ends _ h])

/-! ### The brake cut-out line (R133, R134, R157, R161) -/

theorem rise_enters {s : State} {x : TripSet} (hx : x.nonempty = true) (ht : s.trip.tripped = false) :
    rise s x = enterTrip s x := by
  unfold rise
  rw [hx, ht]
  rfl

/-- A trip cuts every modulator output (R134). -/
theorem enterTrip_chan (s : State) (x : TripSet) (c : Channel) :
    (enterTrip s x).valve.chan[c] = s.valve.chan[c].cut s.clock.us := by
  unfold enterTrip
  rw [endExercise_valve]
  exact mapAll_get _ _ c

theorem enterTrip_ends (s : State) (x : TripSet) : (enterTrip s x).exercise.running = false := by
  unfold enterTrip
  rw [endExercise_exercise]

/-- Modes decided on a channel without a pulse leave it without one (R86, R134). -/
theorem settleModes_silent {s : State} {c : Channel} (h : s.valve.chan[c].Silent) :
    (settleModes s).valve.chan[c].Silent := by
  unfold settleModes
  rw [applyModes_chan]
  split
  · exact ChannelDrive.silent_leave _ _
  · exact h

/-- CUT_LINE is the one source that rises with its line, and it is always enabled (R156, R157). -/
theorem cutLine_rises {x : TripSet} (p : Params) (h : x.cutLine = false) :
    (({ x with cutLine := true } : TripSet).minus x).enabled p = cutLineSet true := by
  unfold TripSet.minus TripSet.enabled
  simp only [h, Bool.and_not_self, Bool.false_and]
  rfl

theorem either_cutLine (x : TripSet) : x.either (cutLineSet true) = { x with cutLine := true } := by
  unfold TripSet.either cutLineSet TripSet.none
  simp only [Bool.or_true, Bool.or_false]

theorem exec_brakeCutOut_on {s : State} (h : s.lines.cutOut = false) (ha : s.trip.active.cutLine = false) :
    exec (.brakeCutOutChange true) s = .next (settleModes (rise
      { s with lines := { s.lines with cutOut := true }
               trip := { s.trip with active := { s.trip.active with cutLine := true } } } (cutLineSet true))) := by
  show Host.Outcome.next _ = _
  rw [if_neg (by rw [h]; decide), ← cutLine_rises s.settings.params ha]
  rfl

theorem outputs_off {s : State} {c : Channel} (h : s.valve.chan[c].Silent) :
    s.valve.chan[c].running = none ∧ inletOn s c = false ∧ exhaustOn s c = false := by
  obtain ⟨hrunning, -⟩ := h
  unfold inletOn exhaustOn
  rw [hrunning]
  exact ⟨rfl, rfl, rfl⟩

section
variable {s : State} {x : TripSet} (hx : x.nonempty = true) (ht : s.trip.tripped = false)
include hx ht

/-- A trip, the modes decided after it: no circuit is ELECTRONIC, and no backup valve is energised (R133, R150, R161). -/
theorem rise_settled_circuit (k : CircuitId) :
    (settleModes (rise s x)).circuit[k].causes = { s.circuit[k].causes with trip := true } ∧
      (settleModes (rise s x)).circuit[k].mode ≠ .electronic ∧ backupOn (settleModes (rise s x)) k = false := by
  refine ⟨?_, ?_, backupOn_tripped k (by rw [settleModes_trip, rise_trip hx])⟩
  · rw [settleModes_slot, rise_circuit hx ht]
  · rw [settleModes_slot, rise_circuit hx ht]
    exact decideMode_tripped _ rfl

/-- No modulator valve is energised after a trip (R134, R161). -/
theorem rise_settled_outputs (c : Channel) : (settleModes (rise s x)).valve.chan[c].running = none ∧
    inletOn (settleModes (rise s x)) c = false ∧ exhaustOn (settleModes (rise s x)) c = false := by
  refine outputs_off (settleModes_silent ?_)
  rw [rise_enters hx ht, enterTrip_chan]
  exact ChannelDrive.silent_cut _ _

theorem rise_settled_ends : (settleModes (rise s x)).exercise.running = false := by
  refine settleModes_ends ?_
  rw [rise_enters hx ht]
  exact enterTrip_ends s x

end

/-- Settles O37: CUT_LINE rises, and the trip it enters cuts the outputs before the modes are decided. -/
theorem cutOutTrips : Obligations.CutOutTrips := by
  intro s hline hactive hnormal
  have hcut : (cutLineSet true).nonempty = true := rfl
  refine ⟨_, exec_brakeCutOut_on hline hactive, ?_, ?_, rise_settled_circuit hcut hnormal,
    rise_settled_outputs hcut hnormal, rise_settled_ends hcut hnormal, ?_⟩
  · rw [settleModes_lines, rise_lines]
  · rw [settleModes_trip, rise_trip hcut, either_cutLine]
  · simp only [settleModes_settings, settleModes_wheel, settleModes_vref, settleModes_sampling, settleModes_clock,
      rise_settings, rise_wheel, rise_vref, rise_sampling, rise_clock, and_self]

end Sys2Proof.Machine
end

section
/-!
PROOFS. The latch of the trip unit over every operation of the block: what leaves the trip unit alone, what a rise adds to it,
and what securing and wake leave of it; and the obligation on every command (R156, R160 to R163).
-/

namespace Sys2Proof.Machine

open Sys2Proof.Safety

-- One theorem after another: elaborated all at once they need more thread stacks than the check's memory limit grants.
set_option Elab.async false

/-! ### The latch -/

/-- Every source of the first set is in the second. -/
structure TripSet.Within (x y : TripSet) : Prop where
  cutLine : x.cutLine = true → y.cutLine = true
  undervolt : x.undervolt = true → y.undervolt = true
  overpressure : x.overpressure = true → y.overpressure = true
  scanStall : x.scanStall = true → y.scanStall = true

theorem TripSet.Within.refl (x : TripSet) : x.Within x := ⟨id, id, id, id⟩

theorem TripSet.Within.trans {x y z : TripSet} (h : x.Within y) (g : y.Within z) : x.Within z :=
  ⟨g.cutLine ∘ h.cutLine, g.undervolt ∘ h.undervolt, g.overpressure ∘ h.overpressure, g.scanStall ∘ h.scanStall⟩

theorem TripSet.within_either (x y : TripSet) : x.Within (x.either y) :=
  ⟨Bool.or_inl, Bool.or_inl, Bool.or_inl, Bool.or_inl⟩

/-- A trip and the latched sources of the first state stand in the second. -/
structure LatchKept (s t : State) : Prop where
  tripped : s.trip.tripped = true → t.trip.tripped = true
  latched : s.trip.latched.Within t.trip.latched

theorem LatchKept.after {s t u : State} (g : LatchKept t u) (h : LatchKept s t) : LatchKept s u :=
  ⟨g.tripped ∘ h.tripped, h.latched.trans g.latched⟩

/-- The latch of the trip unit as it stood, whatever its timer and its active items. -/
theorem LatchKept.of_latch {s t : State} (htripped : t.trip.tripped = s.trip.tripped)
    (hlatched : t.trip.latched = s.trip.latched) : LatchKept s t :=
  ⟨fun h => htripped.trans h, hlatched ▸ .refl _⟩

/-- A change of other blocks. -/
theorem LatchKept.of_trip {s t : State} (h : t.trip = s.trip := by simp) : LatchKept s t :=
  .of_latch (by rw [h]) (by rw [h])

theorem LatchKept.refl (s : State) : LatchKept s s := .of_trip rfl

/-- A change of other blocks after an operation. -/
theorem LatchKept.same {s t u : State} (h : LatchKept s t) (hu : u.trip = t.trip := by simp) : LatchKept s u :=
  (LatchKept.of_trip hu).after h

theorem LatchKept.ite {s t u : State} {b : Prop} [Decidable b] (h : LatchKept s t) (g : LatchKept s u) :
    LatchKept s (if b then t else u) := by
  split
  · exact h
  · exact g

theorem LatchKept.when {s t : State} {b : Prop} [Decidable b] (h : LatchKept s t) :
    LatchKept s (if b then t else s) := .ite h (.refl s)

/-! ### Rises: the one operation that reaches the latch (R156, R161, R162) -/

/-- A rise adds its sources to the latched set and trips (R161). -/
theorem latchKept_rise (s : State) (x : TripSet) : LatchKept s (rise s x) := by
  cases hx : x.nonempty with
  | false =>
    have hstands : rise s x = s := by unfold rise; rw [hx]; rfl
    rw [hstands]
    exact .refl s
  | true =>
    constructor
    · intro _; rw [rise_trip hx]
    · rw [rise_trip hx]; exact TripSet.within_either _ _

theorem latchKept_setActive (s : State) (x : TripSet) : LatchKept s (setActive s x) :=
  (latchKept_rise _ _).after (.of_latch rfl rfl)

/-- The modes decided after an operation leave the trip unit (R151). -/
theorem LatchKept.settled {s t : State} (h : LatchKept s t) : LatchKept s (settleModes t) := h.same

/-! ### Requests that leave the trip unit alone -/

@[simp] theorem takeReply_trip (s : State) (a : Address) (k : Kind) (cb : Byte) (r : TableReply) :
    (takeReply s a k cb r).trip = s.trip := by simp [takeReply, demandAnswer]

@[simp] theorem refreshRequest_trip (s : State) (a : Address) (cb : Byte) : (refreshRequest s a cb).trip = s.trip := by
  unfold refreshRequest
  split
  · rfl
  · exact takeReply_trip _ _ _ _ _

@[simp] theorem releaseRequest_trip (s : State) (a : Address) (cb : Byte) : (releaseRequest s a cb).trip = s.trip := by
  unfold releaseRequest
  split
  · rfl
  · exact takeReply_trip _ _ _ _ _

@[simp] theorem fillExcerpts_trip (s : State) : (fillExcerpts s).trip = s.trip := by
  unfold fillExcerpts; split <;> rfl

@[simp] theorem startEmission_trip (s : State) (r : ExcerptRequest) : (startEmission s r).trip = s.trip :=
  fillExcerpts_trip _

@[simp] theorem finishEmission_trip (s : State) : (finishEmission s).trip = s.trip := by
  unfold finishEmission
  split
  · rfl
  · exact startEmission_trip _ _

@[simp] theorem admitExcerpt_trip (s : State) (a : Address) (r : ExcerptRequest) : (admitExcerpt s a r).trip = s.trip := by
  unfold admitExcerpt excerptAnswer
  split
  · rw [answer_trip, startEmission_trip]
  · split <;> rfl

@[simp] theorem excerptRequest_trip (s : State) (a : Address) (preset start count : Byte) :
    (excerptRequest s a preset start count).trip = s.trip := by
  unfold excerptRequest
  split
  · rfl
  · exact admitExcerpt_trip _ _ _

@[simp] theorem applyRoster_trip (s : State) (x : Address) (state classes scope configure : Byte) :
    (applyRoster s x state classes scope configure).trip = s.trip := by
  unfold applyRoster
  dsimp only
  rw [putTable_trip]

@[simp] theorem setRosterRequest_trip (s : State) (a : Address) (target state classes scope configure : Byte) :
    (setRosterRequest s a target state classes scope configure).trip = s.trip := by
  unfold setRosterRequest plainAnswer
  rw [answer_trip]
  split
  · split
    · exact applyRoster_trip _ _ _ _ _ _
    · rfl
  · rfl

@[simp] theorem storeRequest_trip (s : State) (a : Address) : (storeRequest s a).trip = s.trip := by
  unfold storeRequest
  split
  · rfl
  · split
    · rfl
    · exact startStore_trip s a

@[simp] theorem exerciseEngine_trip (s : State) (a : Address) (c : Channel) (mode count : Byte) :
    (exerciseEngine s a c mode count).trip = s.trip := by
  unfold exerciseEngine
  split
  · rfl
  · split
    · rfl
    · split <;> rfl

@[simp] theorem exerciseRequest_trip (s : State) (a : Address) (channel mode count : Byte) :
    (exerciseRequest s a channel mode count).trip = s.trip := by
  unfold exerciseRequest
  split
  · rfl
  · split
    · split
      · exact exerciseEngine_trip _ _ _ _ _
      · rfl
    · rfl

@[simp] theorem stopRequest_trip (s : State) (a : Address) : (stopRequest s a).trip = s.trip := by
  unfold stopRequest
  split
  · rfl
  · split
    · rfl
    · exact endExercise_trip _ _

/-- A RESTART that finds room in the answer queue waits for its answer to be sent (R201). -/
theorem restartRequest_trip {s : State} (a : Address) (h : s.port.answers.length < 8) :
    (restartRequest s a).trip = s.trip := by
  unfold restartRequest
  rw [if_neg (Nat.not_le.2 h)]
  split
  · rfl
  · split
    · rfl
    · split <;> rfl

@[simp] theorem writeScanParam_trip (s : State) (id v : Nat) : (writeScanParam s id v).trip = s.trip := by
  unfold writeScanParam
  split
  case h_3 => dsimp only; split <;> rfl
  all_goals rfl

/-- A write of an enable can raise a source that is active (R162). -/
theorem latchKept_setParamRequest (s : State) (a : Address) (id : Byte) (v : BitVec 16) :
    LatchKept s (setParamRequest s a id v) := by
  have hwritten (n w : Nat) : LatchKept s (writeParam s n w) :=
    LatchKept.settled ((latchKept_rise _ _).after (.of_trip (paramWritten_trip s n w)))
  exact LatchKept.same (.when (.ite (hwritten _ _) .of_trip)) (answer_trip _ _ _ _ _ _ _ _)

/-! ### Frames on the bus -/

/-- A completed frame that no pending restart waits for does not start the block cold (R43, R201). -/
theorem sent_trip (s : State) {x : Transmission} (h : x.restart = false) : (sent s x).trip = s.trip := by
  unfold sent excerptSent
  dsimp only
  rw [h, if_neg (by decide)]
  split
  · split
    · exact finishEmission_trip _
    · exact fillExcerpts_trip _
  · rfl

/-- A failure that leaves the port ONLINE, or finds no pending restart at it, does not start the block cold (R44, R201). -/
theorem notSent_trip {s : State} (x : Transmission) {why : TransmitFault}
    (h : (s.port.holdsRestart && decide (256 ≤ errorAfter s.port.errorCount why)) = false) :
    (notSent s x why).trip = s.trip := by
  unfold notSent
  dsimp only
  split
  · rfl
  · next hcount =>
    have hoffline : decide (256 ≤ errorAfter s.port.errorCount why) = true := decide_eq_true (Nat.le_of_not_lt hcount)
    rw [hoffline, Bool.and_true] at h
    rw [h]
    exact goOffline_trip _

/-! ### Securing and wake (R160, R184, R188) -/

/-- Securing stops the stall timer and makes SCAN_STALL inactive; the latch stands (R160, R163). -/
theorem latchKept_completeSecuring (s : State) : LatchKept s (completeSecuring s) := by
  have hrest : (completeSecuring s).trip = s.trip.rest := by
    rw [completeSecuring_eq, applyModes_trip, securedBlocks, setStandstill_trip]
  exact .of_latch (by rw [hrest]; rfl) (by rw [hrest]; rfl)

theorem latchKept_enterSecuring (s : State) : LatchKept s (enterSecuring s) :=
  .ite ((latchKept_completeSecuring _).after (.of_trip (beginSecuring_trip s))) (.of_trip (beginSecuring_trip s))

theorem latchKept_reportApplied (s : State) : LatchKept s (reportApplied s) :=
  .ite (latchKept_completeSecuring s) .of_trip

@[simp] theorem matchDoor_trip (s : State) : (matchDoor s).trip = s.trip := by rw [matchDoor_eq]

@[simp] theorem releaseSwitch_trip (s : State) : (releaseSwitch s).trip = s.trip := putTable_trip _ _

@[simp] theorem postSwitch_trip (s : State) : (postSwitch s).trip = s.trip := putTable_trip _ _

@[simp] theorem matchSwitch_trip (s : State) : (matchSwitch s).trip = s.trip := by
  unfold matchSwitch
  split
  · split <;> simp
  · split <;> simp

@[simp] theorem returnFromSecuring_trip (s : State) : (returnFromSecuring s).trip = s.trip := by
  simp [returnFromSecuring]

/-- Wake restarts the stall timer; the latch stands (R160, R188). -/
theorem latchKept_wake (s : State) : LatchKept s (wake s) := by
  have hblocks : (wake s).trip = (wakeBlocks s).trip := by simp [wake]
  exact .of_latch (by rw [hblocks]; rfl) (by rw [hblocks]; rfl)

/-! ### Speeds -/

theorem latchKept_coordinatorSpeed (s : State) (old : Nat) : LatchKept s (coordinatorSpeed s old) :=
  .ite (latchKept_enterSecuring s) .of_trip

theorem latchKept_setReference (s : State) (v : Nat) : LatchKept s (setReference s v) :=
  .ite (.refl s) ((latchKept_coordinatorSpeed _ _).after .of_trip)

theorem latchKept_setWheel (s : State) (c : Channel) (w : Wheel) : LatchKept s (setWheel s c w) :=
  LatchKept.same ((latchKept_setReference { s with wheel := put s.wheel c w } _).after (.of_trip rfl))
    (evalSuspects_trip _)

theorem latchKept_toothEdge (s : State) (c : Channel) : LatchKept s (toothEdge s c) :=
  (latchKept_setWheel s c _).same (coordinatorEdge_trip _ c)

theorem latchKept_markSuspect (s : State) (c : Channel) : LatchKept s (markSuspect s c) :=
  (latchKept_setWheel _ c _).after (.of_trip rfl)

/-! ### Conversions (R119, R158 to R160) -/

theorem latchKept_confirmApplied (s : State) : LatchKept s (confirmApplied s) :=
  have hreported := (latchKept_reportApplied { s with park :=
    { s.park with state := .applied, step := none, confirmTimer := none, pulses := 0, fault := false } }).after
      (.of_trip (s := s) rfl)
  .ite hreported hreported.same

theorem latchKept_parkConversion (s : State) (r : ConvResult) : LatchKept s (parkConversion s r) := by
  unfold parkConversion
  split
  · exact .refl s
  · exact .ite (.refl s) (.ite (latchKept_confirmApplied s) (LatchKept.when (.of_trip rfl)))

theorem latchKept_deliver (s : State) (input : Fin 12) (r : ConvResult) : LatchKept s (deliver s input r) := by
  unfold deliver
  split
  · exact (latchKept_setActive _ _).after (.of_latch rfl rfl)
  · exact .ite .of_trip (latchKept_parkConversion s r).when

@[simp] theorem watchEvent_trip (s : State) (w : Bool) (input : Fin 12) (r : ConvResult) :
    (watchEvent s w input r).trip = s.trip := by
  unfold watchEvent
  split
  · rfl
  · split
    · exact reapply_trip s
    · exact formStatus_trip s

/-- A drive-scan completion moves the undervolt run, the stall timer and the active items (R158, R160). -/
theorem latchKept_driveScanComplete (s : State) (g : Sampling) : LatchKept s (driveScanComplete s g) :=
  (latchKept_setActive _ _).after (.of_latch (by simp) (by simp))

theorem latchKept_advanceScan (s : State) (r : Fin 16) : LatchKept s (advanceScan s r).1 := by
  unfold advanceScan
  split
  · exact .of_trip rfl
  · dsimp only
    split
    · exact .of_trip rfl
    · exact (latchKept_driveScanComplete _ _).after (.of_trip rfl)

theorem latchKept_scannedOn (s : State) (record : Fin 16) : LatchKept s (scannedOn s record) :=
  have hscanned := (latchKept_advanceScan s record).settled
  .ite (LatchKept.refl s).settled (.ite hscanned.same hscanned)

theorem latchKept_takeConversion (s : State) (record : Fin 16) (r : ConvResult) :
    LatchKept s (takeConversion s record r) := by
  rw [takeConversion_eq]
  have hdelivered : LatchKept s (delivered s record r) :=
    (latchKept_deliver (withResult s record r) _ r).after (.of_trip rfl)
  exact (latchKept_scannedOn _ _).after hdelivered.same

theorem latchKept_conversionEvent (s : State) (raw : BitVec 12) : LatchKept s (conversionEvent s raw) := by
  unfold conversionEvent
  split
  · exact (latchKept_takeConversion s _ _).when
  · exact .refl s

/-! ### Lines and timers -/

theorem doorSettled_trip (s : State) : (doorSettled s).trip = s.trip := by
  unfold doorSettled
  dsimp only
  split
  · rfl
  · split <;> rfl

theorem switchSettled_trip (s : State) : (switchSettled s).trip = s.trip := by
  unfold switchSettled
  dsimp only
  split
  · rfl
  · split
    · exact postSwitch_trip _
    · exact releaseSwitch_trip _

theorem driveChanged_trip (s : State) (active : Bool) : (driveChanged s active).trip = s.trip :=
  coordinatorDrive_trip _

theorem latchKept_ignitionOn (s : State) : LatchKept s (ignitionOn s) := by
  unfold ignitionOn
  split
  · exact .of_trip (returnFromSecuring_trip s)
  · exact latchKept_wake s
  all_goals exact .of_trip rfl

theorem latchKept_ignitionOff (s : State) : LatchKept s (ignitionOff s) :=
  .ite (.refl s) (.ite (latchKept_enterSecuring s) (.of_trip rfl))

theorem latchKept_ignitionChanged (s : State) (active : Bool) : LatchKept s (ignitionChanged s active) :=
  .ite ((latchKept_ignitionOn _).after (.of_trip rfl)) ((latchKept_ignitionOff _).after (.of_trip rfl))

theorem latchKept_cutOutChanged (s : State) (active : Bool) : LatchKept s (cutOutChanged s active) :=
  LatchKept.settled ((latchKept_setActive _ _).after (.of_trip rfl))

theorem latchKept_stallExpired (s : State) : LatchKept s (stallExpired s) :=
  LatchKept.settled ((latchKept_setActive _ _).after (.of_latch rfl rfl))

theorem modulationStart_trip (s : State) : (modulationStart s).trip = s.trip := by
  unfold modulationStart
  rw [exercisePeriod_eq]
  split
  · exact endExercise_trip _ _
  · rfl

theorem retryExpired_trip (s : State) : (retryExpired s).trip = s.trip := by
  unfold retryExpired
  dsimp only
  split
  · rfl
  · split
    · rfl
    · exact evaluateRelease_trip _

theorem settleExpired_trip (s : State) : (settleExpired s).trip = s.trip := evalStopHold_trip _

theorem dwellExpired_trip (s : State) : (dwellExpired s).trip = s.trip := by
  unfold dwellExpired
  dsimp only
  split
  · exact considerPromotion_trip _
  · rfl

theorem withheldExpired_trip (s : State) : (withheldExpired s).trip = s.trip := by
  unfold withheldExpired
  split
  · exact undoDriveOff_trip s
  · rfl

/-! ### Commands -/

/-- Whatever next state an outcome holds keeps the latch as it stood. -/
def LatchKeptBy (s : State) (r : Result) : Prop := ∀ t, r = .next t → LatchKept s t

theorem latchKeptBy_next {s t : State} (h : LatchKept s t) : LatchKeptBy s (.next t) := by
  intro u hu; cases hu; exact h

theorem latchKeptBy_refused (s : State) (r : Refusal) : LatchKeptBy s (.refused r) := by
  intro u hu; cases hu

/-- The common path of requests keeps what the act of an ENROLLED sender keeps; a request that is not acted on forms an
answer at most (R33, R35, R45). -/
theorem latchKeptBy_request {s : State} {a : Address} {k : Kind} {x b3 b6 b7 : Byte} {o : AnswerCode} {act : State → Result}
    (hact : ∀ t, t.port = s.port → LatchKeptBy t (act t)) :
    LatchKeptBy s (request s a (answer s a k x o b3 b6 b7) act) := by
  unfold request
  split
  · exact latchKeptBy_next (.refl s)
  · split
    · exact latchKeptBy_next .of_trip
    · exact latchKeptBy_next (.refl s)
    · exact fun u hu => (hact _ (wellFormed_port s a) u hu).after (.of_trip (wellFormed_trip s a))

/-- A request whose act leaves the trip unit alone. -/
theorem latchKeptBy_request_of_trip {s : State} {a : Address} {k : Kind} {x b3 b6 b7 : Byte} {o : AnswerCode}
    {act : State → State} (hact : ∀ t, (act t).trip = t.trip) :
    LatchKeptBy s (request s a (answer s a k x o b3 b6 b7) fun t => .next (act t)) :=
  latchKeptBy_request fun t _ => latchKeptBy_next (.of_trip (hact t))

theorem latchKeptBy_postRequest (s : State) (a : Address) (cb sb life opts gate : Byte) (v : BitVec 16) :
    LatchKeptBy s (postRequest s a cb sb v life opts gate) := by
  unfold postRequest
  split
  · exact latchKeptBy_next (.of_trip rfl)
  · unfold postAtTable
    split
    · intro u hu; cases hu
    · exact latchKeptBy_next .of_trip

/-- No command but CLEAR_TRIP, and one that can start cold, takes a source out of the latched set or ends TRIPPED
(R156, R161, R163). -/
theorem latchKeptBy_exec {c : Instr} {s : State} (hcold : startsCold s c = false) (hclear : ∀ a, c ≠ .clearTrip a) :
    LatchKeptBy s (exec c s) := by
  cases c with
  | post a cb sb v life opts gate =>
    exact latchKeptBy_request fun t _ => latchKeptBy_postRequest t a cb sb life opts gate v
  | refresh a cb => exact latchKeptBy_request_of_trip fun t => refreshRequest_trip t a cb
  | release a cb => exact latchKeptBy_request_of_trip fun t => releaseRequest_trip t a cb
  | excerpt a preset start count =>
    exact latchKeptBy_request_of_trip fun t => excerptRequest_trip t a preset start count
  | setParam a id v =>
    exact latchKeptBy_request fun t _ => latchKeptBy_next (latchKept_setParamRequest t a id v)
  | setRoster a target state classes scope configure =>
    exact latchKeptBy_request_of_trip fun t => setRosterRequest_trip t a target state classes scope configure
  | store a => exact latchKeptBy_request_of_trip fun t => storeRequest_trip t a
  | clearTrip a => exact absurd rfl (hclear a)
  | exercise a channel mode count =>
    exact latchKeptBy_request_of_trip fun t => exerciseRequest_trip t a channel mode count
  | exerciseStop a => exact latchKeptBy_request_of_trip fun t => stopRequest_trip t a
  | restart a =>
    have hroom : s.port.answers.length < 8 := Nat.not_le.1 (of_decide_eq_false hcold)
    exact latchKeptBy_request fun t ht =>
      latchKeptBy_next (.of_trip (restartRequest_trip a (by rw [ht]; exact hroom)))
  | malformedFrame a code kind =>
    show LatchKeptBy s (if _ then _ else _)
    split
    · exact latchKeptBy_next (.of_trip rfl)
    · exact latchKeptBy_refused s _
  | ignoredFrame why =>
    show LatchKeptBy s (if _ then _ else _)
    split
    · exact latchKeptBy_next (.refl s)
    · exact latchKeptBy_refused s _
  | transmitStart =>
    refine latchKeptBy_next ?_
    split
    · exact .of_trip rfl
    · exact .refl s
  | transmitComplete =>
    refine latchKeptBy_next ?_
    split
    · next x hx =>
      have hrestart : x.restart = false := by simpa [startsCold, hx] using hcold
      exact .of_trip (sent_trip s hrestart)
    · exact .refl s
  | transmitFailure why =>
    refine latchKeptBy_next ?_
    split
    · exact .of_trip (notSent_trip _ hcold)
    · exact .refl s
  | coldStart => cases hcold
  | debouncedLineChange line active =>
    refine latchKeptBy_next ?_
    cases line <;> exact .of_trip rfl
  | debounceExpiry line =>
    refine latchKeptBy_next ?_
    cases line with
    | doorOpen => exact LatchKept.when (.of_trip (doorSettled_trip s))
    | parkSwitch => exact LatchKept.when (.of_trip (switchSettled_trip s))
  | driveRequestChange active => exact latchKeptBy_next (.ite (.refl s) (.of_trip (driveChanged_trip s active)))
  | ignitionChange active => exact latchKeptBy_next (.ite (.refl s) (latchKept_ignitionChanged s active))
  | brakeCutOutChange active => exact latchKeptBy_next (.ite (.refl s) (latchKept_cutOutChanged s active))
  | toothEdge c => exact latchKeptBy_next (latchKept_toothEdge s c)
  | toothTimeout c => exact latchKeptBy_next (latchKept_setWheel s c _).when
  | suspectSetExpiry c => exact latchKeptBy_next (latchKept_markSuspect s c).when
  | suspectClearExpiry c => exact latchKeptBy_next (latchKept_setWheel s c _).when
  | conversionComplete raw => exact latchKeptBy_next (latchKept_conversionEvent s raw)
  | stallTimerExpiry => exact latchKeptBy_next (latchKept_stallExpired s).when
  | allocationPeriod => exact latchKeptBy_next (LatchKept.when (.of_trip (allocate_trip s)))
  | holdOverride => exact latchKeptBy_next (LatchKept.when (.of_trip (fireOverride_trip s)))
  | recoveryWaitExpiry => exact latchKeptBy_next (LatchKept.when (.of_trip (rejoinBus_trip s)))
  | modulationPeriodStart => exact latchKeptBy_next (LatchKept.when (.of_trip (modulationStart_trip s)))
  | retryTimerExpiry => exact latchKeptBy_next (LatchKept.when (.of_trip (retryExpired_trip s)))
  | settleTimerExpiry => exact latchKeptBy_next (LatchKept.when (.of_trip (settleExpired_trip s)))
  | dwellExpiry => exact latchKeptBy_next (LatchKept.when (.of_trip (dwellExpired_trip s)))
  | quietWindowExpiry =>
    exact latchKeptBy_next (LatchKept.when (.ite (.of_trip (quietExpired_trip s)) (.of_trip rfl)))
  | withheldReleaseExpiry => exact latchKeptBy_next (LatchKept.when (.of_trip (withheldExpired_trip s)))
  | statusPeriodExpiry => exact latchKeptBy_next (LatchKept.when (.of_trip (formStatus_trip s)))
  | storeComplete =>
    refine latchKeptBy_next ?_
    split
    · exact LatchKept.when (.of_trip rfl)
    · exact .refl s
  | deadlineExpiry _ | muteExpiry _ | scanTriggerExpiry | watchTimerExpiry | modulatorPulseStart _
  | modulatorPulseEnd _ | parkPulseEnd | confirmationWindowExpiry | springCycleEntryExpiry =>
    exact latchKeptBy_next (.of_trip rfl)

/-- Settles O57: what every command keeps of the latch. -/
theorem tripStaysLatched : Obligations.TripStaysLatched := by
  unfold Obligations.TripStaysLatched
  intro c s t hcold hclear h
  obtain ⟨htripped, hlatched⟩ := latchKeptBy_exec hcold hclear t h
  exact ⟨htripped, hlatched.cutLine, hlatched.undervolt, hlatched.overpressure, hlatched.scanStall⟩

end Sys2Proof.Machine
end

section
/-!
PROOFS. The stall timer: SCAN_STALL rises while it is enabled, and the obligation on the trip it makes (R156, R160, R161).
-/

namespace Sys2Proof.Machine

-- One theorem after another: elaborated all at once they need more thread stacks than the check's memory limit grants.
set_option Elab.async false

/-- SCAN_STALL alone, or no source. -/
def scanStallSet (b : Bool) : TripSet := { TripSet.none with scanStall := b }

/-- SCAN_STALL is the one source that rises at the expiry, and only while it is enabled (R156, R160). -/
theorem scanStall_rises {x : TripSet} (p : Params) (h : x.scanStall = false) :
    (({ x with scanStall := true } : TripSet).minus x).enabled p = scanStallSet p.scanStallOn := by
  unfold TripSet.minus TripSet.enabled
  simp only [h, Bool.and_not_self, Bool.false_and]
  rfl

theorem either_scanStall (x : TripSet) : x.either (scanStallSet true) = { x with scanStall := true } := by
  unfold TripSet.either scanStallSet TripSet.none
  simp only [Bool.or_true, Bool.or_false]

/-- The state at the expiry: the timer stopped and SCAN_STALL active (R160). -/
def stalled (s : State) : State :=
  { s with trip := { s.trip with stallTimer := none, active := { s.trip.active with scanStall := true } } }

theorem exec_stallTimerExpiry {s : State} {x : Nat} (ht : s.trip.stallTimer = some x) (hx : x ≤ s.clock.us)
    (ha : s.trip.active.scanStall = false) :
    exec .stallTimerExpiry s =
      .next (settleModes (rise (stalled s) (scanStallSet s.settings.params.scanStallOn))) := by
  have hdue : due s.trip.stallTimer s.clock.us = true := by rw [ht]; exact decide_eq_true hx
  show Host.Outcome.next _ = _
  rw [if_pos hdue, ← scanStall_rises s.settings.params ha]
  rfl

/-- Settles O44: SCAN_STALL rises and trips where it is enabled, and nothing rises where it is not. -/
theorem stallTrips : Obligations.StallTrips := by
  intro x s ht hx ha hnormal
  rw [exec_stallTimerExpiry ht hx ha]
  constructor
  · intro hon
    rw [hon]
    have hstall : (scanStallSet true).nonempty = true := rfl
    have hcircuit (k : CircuitId) := rise_settled_circuit (s := stalled s) hstall hnormal k
    refine ⟨_, rfl, ?_, fun k => ?_, ?_⟩
    · rw [settleModes_trip, rise_trip hstall, either_scanStall]
      rfl
    · obtain ⟨hcauses, hmode, -⟩ := hcircuit k
      exact ⟨by rw [hcauses], hmode⟩
    · simp only [settleModes_settings, settleModes_wheel, settleModes_sampling, settleModes_clock, rise_settings,
        rise_wheel, rise_sampling, rise_clock]
      exact ⟨rfl, rfl, rfl, rfl⟩
  · intro hoff hmodes
    have hnone : rise (stalled s) (scanStallSet false) = stalled s := rise_none _
    rw [hoff, hnone, settleModes_same (s := stalled s) hmodes]
    rfl

end Sys2Proof.Machine
end

section
/-!
PROOFS. The coordinator's timers at standstill: the settle timer in RUN, the quiet window of the creep detector and the
spring-cycle list, and the obligations on them (R167 to R170, R175, R177, R181).
-/

namespace Sys2Proof.Machine

-- One theorem after another: elaborated all at once they need more thread stacks than the check's memory limit grants.
set_option Elab.async false

/-! ### The settle timer (R169, R170) -/

/-- The state at a settle expiry in RUN, before the stop-hold conditions are evaluated (R169). -/
def settledRun (s : State) : State := { s with coord := { s.coord with settleTimer := none, settled := true } }

/-- The hold a stop places in slot 3 (R167, R170). -/
def stopHoldEntry (v : Nat) : Entry :=
  { source := 19, cls := .hold, scope := 0b111111#6, value := some v, lifetime := none, deadline := none,
    policy := .rampOut, gate := none, state := .active, blend := 0 }

theorem newEntry_hold (v : Nat) (now : Ms) : newEntry 19 (holdFields v) now = stopHoldEntry v := rfl

section
variable {s : State}

theorem exec_settleTimerExpiry_due {x : Nat} (h : s.coord.settleTimer = some x) (hx : x ≤ s.clock.us)
    (hst : s.coord.state = .run) : exec .settleTimerExpiry s = .next (evalStopHold (settledRun s)) := by
  show Host.Outcome.next _ = _
  rw [if_pos (due_of_timer h hx), settleExpired, decide_eq_true hst, Bool.or_true]
  rfl

/-- A settled bus in RUN meets the stop-hold conditions where the pressure, the parameter, both circuits and the drive request
allow it (R170). -/
theorem stopHoldConditions_settledRun (hst : s.coord.state = .run)
    (hpressure : s.settings.params.holdMin ≤ drivePressure s) (hauto : s.settings.params.autoHold = true)
    (hfront : s.circuit[0].mode = .electronic) (hrear : s.circuit[1].mode = .electronic) (hdrive : s.lines.drive = false) :
    stopHoldConditions (settledRun s) = true := by
  have hp : s.settings.params.holdMin ≤ drivePressure (settledRun s) := hpressure
  simp only [stopHoldConditions, Bool.and_eq_true, decide_eq_true_eq, Bool.not_eq_true']
  exact ⟨⟨⟨⟨⟨⟨hst, rfl⟩, hp⟩, hauto⟩, hfront⟩, hrear⟩, hdrive⟩

/-- The drive request keeps the bus from a stop hold (R170). -/
theorem stopHoldConditions_drive (h : s.lines.drive = true) : stopHoldConditions s = false := by
  unfold stopHoldConditions
  rw [h, Bool.not_true, Bool.and_false]

/-- Entry to STOP_HOLD from RUN with slot 3 vacant: no exercise ends, and slot 3 is created (R16, R148, R170). -/
theorem enterStopHold_vacant (hst : s.coord.state = .run) (h3 : s.table[(3 : Slot)] = none) : enterStopHold s =
    { s with
      coord := { s.coord.enter .stopHold with
        dwellTimer := some (s.clock.us + sec s.settings.params.promoteDelay) }.window
          (s.clock.us + sec s.settings.params.quietWindow) s.vref
      table := put s.table 3 (some (stopHoldEntry
        (clampTo (drivePressure s) s.settings.params.holdMin s.settings.params.holdMax))) } := by
  have hrun : (postSlot3 s (drivePressure s)).coord.state ≠ .autoPark := by
    show s.coord.state ≠ .autoPark
    rw [hst]
    decide
  unfold enterStopHold
  rw [setStandstill_outside _ hrun, postSlot3, homePost_vacant _ _ _ h3, newEntry_hold]
  rfl

/-- The coordinator's record once STOP_HOLD is entered from a settled RUN (R168 to R170). -/
theorem enter_stopHold_settledRun (hst : s.coord.state = .run) : (settledRun s).coord.enter .stopHold =
    { s.coord with state := .stopHold, settleTimer := none, settled := false, watchOpen := false
                   withheldTimer := none } := by
  unfold Coordinator.enter settledRun
  dsimp only
  rw [hst]
  simp

end

/-- Settles O48: the conditions met, the stop hold is entered; the drive request active, the bus is only settled. -/
theorem settleExpires : Obligations.SettleExpires := by
  intro x s hx hdue hst
  rw [exec_settleTimerExpiry_due hx hdue hst]
  constructor
  · intro hpressure hauto hfront hrear hdrive h3
    have hconditions := stopHoldConditions_settledRun hst hpressure hauto hfront hrear hdrive
    rw [evalStopHold, if_pos hconditions, enterStopHold_vacant (s := settledRun s) hst h3, enter_stopHold_settledRun hst]
    exact ⟨_, rfl, rfl, fun j hj => put_slot_other _ _ hj, put_slot_same _ _ _, rfl⟩
  · intro hdrive
    have hconditions : stopHoldConditions (settledRun s) = false := stopHoldConditions_drive hdrive
    rw [evalStopHold, hconditions]
    rfl

/-! ### The quiet window (R168, R175, R177) -/

section
variable {s : State}

/-- In the states that run the creep detector a due window is acted on (R168). -/
theorem exec_quietWindowExpiry_due {x : Nat} (h : s.coord.quietTimer = some x) (hx : x ≤ s.clock.us) (hst : Creeping s) :
    exec .quietWindowExpiry s = .next (quietExpired s) := by
  have hruns : detectorRuns s.coord.state = true := by rcases hst with h | h | h <;> rw [h] <;> rfl
  show Host.Outcome.next _ = _
  rw [if_pos (due_of_timer h hx), if_pos hruns]

theorem quietExpired_stays (h : s.coord.state ≠ .creepHold) : quietExpired s = startWindow s := if_neg h

/-- CREEP_HOLD ends in AUTO_PARK, with slot 3 handed over where the valve stands APPLIED (R175, R177). -/
theorem quietExpired_creepHold (h : s.coord.state = .creepHold) : quietExpired s =
    { s with
      coord := (s.coord.enter .autoPark).window (s.clock.us + sec s.settings.params.quietWindow) s.vref
      table := handedOver s.table (decide (s.park.state = .applied)) } := by
  unfold quietExpired
  rw [if_pos h, setStandstill_outside _ (by rw [h]; decide), handover_eq rfl]
  rfl

/-- The coordinator's record once CREEP_HOLD ends in AUTO_PARK: no release watch closes, as RUN is not left (R179). -/
theorem enter_autoPark_creepHold (h : s.coord.state = .creepHold) : s.coord.enter .autoPark =
    { s.coord with state := .autoPark, settleTimer := none, settled := false, dwellTimer := none } := by
  unfold Coordinator.enter
  rw [h]
  simp

end

/-- Slot 3 at a handover: an ACTIVE hold is released where the valve stands APPLIED (R175). -/
theorem handedOver_slot3 {t : Table} {e : Entry} {applied : Bool} (h : t[(3 : Slot)] = some e) :
    (handedOver t applied)[(3 : Slot)] = if e.state = .active ∧ applied = true then e.retire else some e := by
  have hreleased : (applied && slotIs t 3 .active) = true ↔ e.state = .active ∧ applied = true := by
    rw [slotIs_some _ h, Bool.and_eq_true, decide_eq_true_eq, and_comm]
  unfold handedOver
  by_cases hboth : e.state = .active ∧ applied = true
  · have hstands : e.state ≠ .retiring := by rw [hboth.1]; decide
    rw [if_pos hboth, if_pos (hreleased.2 hboth), homeRelease_retire h hstands, put_slot_same]
  · rw [if_neg hboth, if_neg (mt hreleased.1 hboth), h]

/-- Settles O50: CREEP_HOLD returns to AUTO_PARK, and in each state a new window starts. -/
theorem quietWindowEnds : Obligations.QuietWindowEnds := by
  intro x s hx hdue
  constructor
  · intro hst
    rw [exec_quietWindowExpiry_due hx hdue (.inr (.inr hst)), quietExpired_creepHold hst, enter_autoPark_creepHold hst]
    refine ⟨_, rfl, rfl, rfl, fun j hj => handedOver_other _ _ hj, fun e he => ?_⟩
    simpa using handedOver_slot3 (applied := decide (s.park.state = .applied)) he
  · intro hst
    have hcreeping : Creeping s := hst.imp_right .inl
    have hstays : s.coord.state ≠ .creepHold := by rcases hst with h | h <;> rw [h] <;> decide
    rw [exec_quietWindowExpiry_due hx hdue hcreeping, quietExpired_stays hstays]
    rfl

/-! ### The spring-cycle list (R181) -/

theorem cycleDue_cons (x : Ms) (rest : List Ms) (now : Ms) (window : Nat) :
    cycleDue (x :: rest) now window = decide (window * 1000 ≤ (now - x).toNat) := rfl

/-- Settles O52: the oldest entry is due, and it alone leaves. -/
theorem springCycleExpires : Obligations.SpringCycleExpires := by
  intro x rest s hlist hage
  show Host.Outcome.next _ = _
  rw [hlist, cycleDue_cons, decide_eq_true hage]
  rfl

end Sys2Proof.Machine
end

section
/-!
PROOFS. STORE and RESTART accepted: the records a STORE copies, which the sender's own frame does not change, and the
obligations on both requests (R33, R42, R198, R199, R201).
-/

namespace Sys2Proof.Machine

-- One theorem after another: elaborated all at once they need more thread stacks than the check's memory limit grants.
set_option Elab.async false

/-! ### STORE (R198, R199) -/

theorem storeRequest_accepted {s : State} {a : Address} (hconf : s.roster[a].configure = true)
    (hstore : s.settings.store = none) : storeRequest s a = startStore s a := by
  unfold storeRequest
  rw [hconf, hstore]
  rfl

theorem copyImage_record (s : State) (y : Address) : (copyImage s).roster[y] = s.roster[y].stored := mapAll_get _ _ y

/-- A stored record holds no malformed count, which is all the common path changes (R33, R198). -/
theorem wellFormed_stored (s : State) (a y : Address) :
    (wellFormed s a).roster[y].stored = s.roster[y].stored := by
  by_cases hy : y = a
  · subst hy; rw [wellFormed_record]; rfl
  · rw [wellFormed_roster, put_record_other _ _ hy]

/-- Settles O25: the checks passed, the image is copied record by record. -/
theorem storeStarts : Obligations.StoreStarts := by
  intro a s hon hen hconf hstore
  have hrequest : storeRequest (wellFormed s a) a = startStore (wellFormed s a) a :=
    storeRequest_accepted (by rw [wellFormed_record]; exact hconf) hstore
  refine ⟨_, by rw [exec_store, request_enrolled _ _ hon hen, hrequest], rfl, rfl, rfl, rfl, rfl, rfl, rfl, fun y => ?_⟩
  show (copyImage (wellFormed s a)).roster[y] = _
  rw [copyImage_record, wellFormed_stored, RosterRecord.stored]
  cases s.roster[y].state <;> rfl

/-! ### RESTART (R201) -/

/-- The checks of R201 passed and a place in the queue: no cold start yet. -/
theorem restartRequest_accepted {s : State} {a : Address} (hconf : s.roster[a].configure = true) (hv : s.vref = 0)
    (hstore : s.settings.store = none) (hpending : s.settings.restartPending = false)
    (hroom : s.port.answers.length < 8) : restartRequest s a = acceptRestart s a := by
  unfold restartRequest
  rw [hconf, hv, hstore, hpending]
  exact if_neg (Nat.not_le.2 hroom)

/-- Settles O30: the checks passed, the answer joins the queue as the one the restart waits for. -/
theorem restartPends : Obligations.RestartPends := by
  intro a s hon hen hconf hv hstore hpending hroom
  have hrequest : restartRequest (wellFormed s a) a = acceptRestart (wellFormed s a) a :=
    restartRequest_accepted (by rw [wellFormed_record]; exact hconf) hv hstore hpending hroom
  refine ⟨_, answerFrame s.table s.settings.params a .restart 0 .accepted 0xFF 0 0,
    by rw [exec_restart, request_enrolled _ _ hon hen, hrequest], ?_, rfl, rfl⟩
  unfold acceptRestart
  rw [wellFormed_port, Port.push_room _ _ hon hroom]
  rfl

end Sys2Proof.Machine
end

section
/-!
PROOFS. The step: a waiting command is taken first, an empty queue hands the step to the block's own due events, and with none
due a microsecond passes; the obligations on the first and on the last of these (00_scope Time; log entries 1 and 2).
-/

namespace Sys2Proof.Machine

/-! ### The queue -/

theorem step_pending_cons {c : Instr} {rest : List Instr} {s : State} (h : s.pending = c :: rest) :
    step s = exec c { s with pending := rest } := by
  unfold step takeFront
  rw [h]

theorem step_pending_nil {s : State} (h : s.pending = []) : step s = idle s := by
  unfold step takeFront
  rw [h]

/-- Settles O1: the queue with a command at its front. -/
theorem stepTakesFront : Obligations.StepTakesFront := fun _ _ _ h => step_pending_cons h

/-! ### The tick -/

theorem idle_nothing_due {s : State} (h : dueEvents s = []) : idle s = .next { s with clock := s.clock.tick } := by
  unfold idle
  rw [h]

/-- Settles O2: an empty queue leaves the step to the due events, and with none of them the clock ticks. -/
theorem idleTicks : Obligations.IdleTicks := by
  intro s hpending hdue
  have htick : step s = .next { s with clock := s.clock.tick } :=
    (step_pending_nil hpending).trans (idle_nothing_due hdue)
  exact ⟨_, htick, rfl, rfl, rfl, rfl⟩

end Sys2Proof.Machine
end
